-- ==== Sys2Proof/Word.lean ====
section
/-! DEFINITION. The word types of the FCB (spec/00_scope.md R8, section 5.1): every value is unsigned. -/

namespace Sys2Proof

/-- A byte, 8 bits; bit 7 is the most significant (R8 `BITS_PER_BYTE`, section 5.1). Also the width of the checksum and of
the accumulator (R8 `CRC_WIDTH`). -/
abbrev Byte := BitVec 8

/-- A 16-bit value: a command code, an argument or a response word (R8 `CODE_WIDTH`, `ARG_WIDTH`, `WORD_WIDTH`). -/
abbrev Word := BitVec 16

/-- A 32-bit pattern as the float reassembler delivers it (R8 `FLOAT_WIDTH`, R14: a bit pattern, not a number). -/
abbrev Pattern := BitVec 32

end Sys2Proof
end

