-- ==== Sys2Proof/Config.lean ====
section
/-! DEFINITION. The parameters of the block: the constants this hardware fixes (spec/00_scope.md R3, R8) and the one
parameter it leaves open (R9). The spec leaves no result undefined, so there is no free value here. -/

namespace Sys2Proof

/-- The open parameter of an instance (R9). -/
structure Config where
  /-- `MAXLEN`: the largest length of the byte sequence of a CRC8 or BPAY request; `none` is no bound (R9, D4). -/
  maxLen : Option Nat
  deriving DecidableEq, Repr

/-- The default of R9: no bound. -/
def Config.default : Config := { maxLen := none }

/-- Whether a byte sequence of `n` bytes is within `MAXLEN` (R9, R49, R62). -/
def Config.accepts (c : Config) (n : Nat) : Bool :=
  match c.maxLen with
  | none => true
  | some m => decide (n ≤ m)

/-- `POLY`: XORed into the accumulator after a shift that pushed out a 1 (R8). -/
def Config.poly : Byte := 0x31#8

/-- `INIT`: the accumulator before the first byte of every CRC pass (R8, R19, R101). -/
def Config.init : Byte := 0xFF#8

/-- `REFIN`: input bytes are not bit-reflected (R8, R22). -/
def Config.refin : Bool := false

/-- `REFOUT`: the result is not bit-reflected (R8, R22). -/
def Config.refout : Bool := false

/-- `XOROUT`: nothing is XORed into the result (R8). -/
def Config.xorout : Byte := 0x00#8

/-- `BITS_PER_BYTE`: shift iterations per input byte (R8, R46). -/
def Config.bitsPerByte : Nat := 8

/-- `WORD_BYTES`: bytes of a single-word response and of one half of a float group (R8, R36, R37). -/
def Config.wordBytes : Nat := 3

/-- `GROUP_BYTES`: bytes of one float group (R8, R37). -/
def Config.groupBytes : Nat := 6

/-- `BLOCK_BYTES`: bytes of a measurement block (R8, R38). -/
def Config.blockBytes : Nat := 18

/-- `GROUPS_PER_BLOCK`: float groups of a measurement block (R8, R38). -/
def Config.groupsPerBlock : Nat := 3

end Sys2Proof
end

