-- ==== Sys2Proof/Machine/Crc.lean ====
section
/-! DEFINITION. The CRC-8 functions every family calls (spec/40_crc8.md R45 to R48), and three other forms the spec gives of
the same function: the table (R54), the polynomial remainder (R50) and the general CRC whose parameters R8 names. The meanings
use `crc8` alone; the other forms have loops of their own and are what statements compare it with. -/

namespace Sys2Proof.Machine

/-- `crc8_bit(a)` (R45): the test is on bit 7 before the 8-bit shift. -/
def crc8Bit (a : Byte) : Byte :=
  if a.getLsbD 7 then (a <<< 1) ^^^ Config.poly else a <<< 1

/-- `n` shift iterations (the loop `for k in 0..7` of R46). -/
def crc8Bits : Nat → Byte → Byte
  | 0, a => a
  | n + 1, a => crc8Bits n (crc8Bit a)

/-- `crc8_step(acc, b)` (R46): the byte is XORed in whole and first, then eight iterations follow. -/
def crc8Step (acc b : Byte) : Byte := crc8Bits Config.bitsPerByte (acc ^^^ b)

/-- `crc8_acc(acc, s)` (R47): the bytes in index order; the accumulator of R19 is its first argument. -/
def crc8Acc : Byte → List Byte → Byte
  | acc, [] => acc
  | acc, b :: s => crc8Acc (crc8Step acc b) s

/-- `crc8(s)` (R48): a pass, which always starts from `INIT` (R101). -/
def crc8 (s : List Byte) : Byte := crc8Acc Config.init s

/-! The table of R54, row by row as the spec prints it. -/

/-- Rows 0_ to 3_ of the table of R54. -/
def crcTable0 : List Byte :=
  [0x00, 0x31, 0x62, 0x53, 0xC4, 0xF5, 0xA6, 0x97, 0xB9, 0x88, 0xDB, 0xEA, 0x7D, 0x4C, 0x1F, 0x2E] ++
  [0x43, 0x72, 0x21, 0x10, 0x87, 0xB6, 0xE5, 0xD4, 0xFA, 0xCB, 0x98, 0xA9, 0x3E, 0x0F, 0x5C, 0x6D] ++
  [0x86, 0xB7, 0xE4, 0xD5, 0x42, 0x73, 0x20, 0x11, 0x3F, 0x0E, 0x5D, 0x6C, 0xFB, 0xCA, 0x99, 0xA8] ++
  [0xC5, 0xF4, 0xA7, 0x96, 0x01, 0x30, 0x63, 0x52, 0x7C, 0x4D, 0x1E, 0x2F, 0xB8, 0x89, 0xDA, 0xEB]

/-- Rows 4_ to 7_ of the table of R54. -/
def crcTable1 : List Byte :=
  [0x3D, 0x0C, 0x5F, 0x6E, 0xF9, 0xC8, 0x9B, 0xAA, 0x84, 0xB5, 0xE6, 0xD7, 0x40, 0x71, 0x22, 0x13] ++
  [0x7E, 0x4F, 0x1C, 0x2D, 0xBA, 0x8B, 0xD8, 0xE9, 0xC7, 0xF6, 0xA5, 0x94, 0x03, 0x32, 0x61, 0x50] ++
  [0xBB, 0x8A, 0xD9, 0xE8, 0x7F, 0x4E, 0x1D, 0x2C, 0x02, 0x33, 0x60, 0x51, 0xC6, 0xF7, 0xA4, 0x95] ++
  [0xF8, 0xC9, 0x9A, 0xAB, 0x3C, 0x0D, 0x5E, 0x6F, 0x41, 0x70, 0x23, 0x12, 0x85, 0xB4, 0xE7, 0xD6]

/-- Rows 8_ to B_ of the table of R54. -/
def crcTable2 : List Byte :=
  [0x7A, 0x4B, 0x18, 0x29, 0xBE, 0x8F, 0xDC, 0xED, 0xC3, 0xF2, 0xA1, 0x90, 0x07, 0x36, 0x65, 0x54] ++
  [0x39, 0x08, 0x5B, 0x6A, 0xFD, 0xCC, 0x9F, 0xAE, 0x80, 0xB1, 0xE2, 0xD3, 0x44, 0x75, 0x26, 0x17] ++
  [0xFC, 0xCD, 0x9E, 0xAF, 0x38, 0x09, 0x5A, 0x6B, 0x45, 0x74, 0x27, 0x16, 0x81, 0xB0, 0xE3, 0xD2] ++
  [0xBF, 0x8E, 0xDD, 0xEC, 0x7B, 0x4A, 0x19, 0x28, 0x06, 0x37, 0x64, 0x55, 0xC2, 0xF3, 0xA0, 0x91]

/-- Rows C_ to F_ of the table of R54. -/
def crcTable3 : List Byte :=
  [0x47, 0x76, 0x25, 0x14, 0x83, 0xB2, 0xE1, 0xD0, 0xFE, 0xCF, 0x9C, 0xAD, 0x3A, 0x0B, 0x58, 0x69] ++
  [0x04, 0x35, 0x66, 0x57, 0xC0, 0xF1, 0xA2, 0x93, 0xBD, 0x8C, 0xDF, 0xEE, 0x79, 0x48, 0x1B, 0x2A] ++
  [0xC1, 0xF0, 0xA3, 0x92, 0x05, 0x34, 0x67, 0x56, 0x78, 0x49, 0x1A, 0x2B, 0xBC, 0x8D, 0xDE, 0xEF] ++
  [0x82, 0xB3, 0xE0, 0xD1, 0x46, 0x77, 0x24, 0x15, 0x3B, 0x0A, 0x59, 0x68, 0xFF, 0xCE, 0x9D, 0xAC]

/-- The table `T` of R54; entry `16*r + c` is row `r`, column `c`. -/
def crcTable : List Byte := crcTable0 ++ crcTable1 ++ crcTable2 ++ crcTable3

/-- One step by the table: `T[acc ^ b]` (R54). -/
def crc8TableStep (acc b : Byte) : Byte := crcTable.getD (acc ^^^ b).toNat 0#8

/-! The polynomial form of R50, on natural numbers whose bit `i` is the coefficient of `x^i`. -/

/-- A byte sequence read as one big-endian number `M` (R50), starting from the number read so far. -/
def beNat : Nat → List Byte → Nat
  | acc, [] => acc
  | acc, b :: s => beNat (acc * 256 + b.toNat) s

/-- Long division by `P = x^8 + x^5 + x^4 + 1` (0x131) over GF(2): from bit `n + 7` down to bit 8, a coefficient that is set is
cancelled by `P` shifted under it. For `v < 2^(n + 8)` the result is `v mod P` (R50). -/
def polyMod : Nat → Nat → Nat
  | 0, v => v
  | n + 1, v => polyMod n (if v.testBit (n + 8) then v ^^^ (0x131 <<< n) else v)

/-! The general CRC of width 8 whose parameters R8 names, with a loop of its own: a register that takes the message one bit at a
time. The block has one setting of the parameters and no other (R3); they are arguments here only so that a statement can say
which setting it is. -/

/-- A byte with its bits in the opposite order. -/
def reflectByte (b : Byte) : Byte := b.reverse

/-- One message bit: it meets the register's top bit, the register shifts, and `poly` is XORed in when the two differ. -/
def catalogueBit (poly reg : Byte) (bit : Bool) : Byte :=
  if reg.msb ^^ bit then (reg <<< 1) ^^^ poly else reg <<< 1

/-- The low `n` bits of a byte, the highest of them first; all of the byte, most significant bit first, for `n = 8`. -/
def catalogueBits (poly b : Byte) : Nat → Byte → Byte
  | 0, reg => reg
  | n + 1, reg => catalogueBits poly b n (catalogueBit poly reg (b.getLsbD n))

/-- The bytes of a message in index order, each reflected first when `refin` says so. -/
def catalogueBytes (poly : Byte) (refin : Bool) : Byte → List Byte → Byte
  | reg, [] => reg
  | reg, b :: s => catalogueBytes poly refin (catalogueBits poly (if refin then reflectByte b else b) 8 reg) s

/-- A CRC-8 with `POLY`, `INIT`, `REFIN`, `REFOUT` and `XOROUT` as parameters (R8). -/
def catalogueCrc (poly init : Byte) (refin refout : Bool) (xorout : Byte) (s : List Byte) : Byte :=
  let reg := catalogueBytes poly refin init s
  (if refout then reflectByte reg else reg) ^^^ xorout

end Sys2Proof.Machine
end

