-- ==== Sys2Proof/Syntax.lean ====
section
/-! DEFINITION. Requests as syntax: the eight rows of spec/opcode_table.json with their typed operand fields
(spec/10_state.md R12, spec/30_encoding.md R31). -/

namespace Sys2Proof

/-- Three bytes: two data bytes and the checksum byte that stands after them. It is the single-word response of R36 and each
half of a float group (R37). The length is part of the type (R12). -/
structure Half where
  hi  : Byte
  lo  : Byte
  crc : Byte
  deriving DecidableEq, Repr

/-- The six bytes of a float group: two halves (R37). `first` is `g[0..3)` and `second` is `g[3..6)`. -/
structure FloatGroup where
  first  : Half
  second : Half
  deriving DecidableEq, Repr

/-- The 18 bytes of a measurement block: three float groups, in this order (R38, R79). -/
structure MeasBlock where
  co2  : FloatGroup
  temp : FloatGroup
  rh   : FloatGroup
  deriving DecidableEq, Repr

/-- The bytes `[w0, w1, w2]` of a half, in index order (R36). -/
def Half.bytes (h : Half) : List Byte := [h.hi, h.lo, h.crc]

/-- The bytes `[g0 .. g5]` of a float group, in index order (R37). -/
def FloatGroup.bytes (g : FloatGroup) : List Byte := g.first.bytes ++ g.second.bytes

/-- The bytes `[m0 .. m17]` of a measurement block, in index order (R38). -/
def MeasBlock.bytes (m : MeasBlock) : List Byte := m.co2.bytes ++ m.temp.bytes ++ m.rh.bytes

/-- A request (R7, R12): one operation of the block with its operand values. One constructor per row of
spec/opcode_table.json. The operands stand in the order of the request syntax (R43). -/
inductive Instr where
  /-- CRC8 (R49): the checksum of a byte sequence. -/
  | crc8 (data : List Byte)
  /-- BCMD (R60): a command-only frame. -/
  | bcmd (code : Word)
  /-- BARG (R61): a command+argument frame. -/
  | barg (code arg : Word)
  /-- BPAY (R62): a command+payload frame; `wcrc` = 1 is the source's `with_crc = true` (D17). -/
  | bpay (code : Word) (data : List Byte) (wcrc : BitVec 1)
  /-- DWORD (R70): verify and decode a single-word response. -/
  | dword (w : Half)
  /-- DFLT (R75): verify and reassemble one float group. -/
  | dflt (g : FloatGroup)
  /-- DMEAS (R78): verify and reassemble a measurement block. -/
  | dmeas (m : MeasBlock)
  /-- RSVD7 (R41): a request with the reserved selector 7; format R has no operand field. -/
  | rsvd7
  deriving DecidableEq, Repr

end Sys2Proof
end

