-- ==== Sys2Proof/Machine/Flags.lean ====
section
/-! DEFINITION. The block has no flags register and no condition codes (spec/10_state.md R16). The one predicate the spec
names, "zero CRC-check value means valid", is here; it is computed inside DWORD, DFLT and DMEAS and stored nowhere. -/

namespace Sys2Proof.Machine

/-- The residue test `crc8(t) = 0x00` on a sequence that ends in a checksum byte (R16, R52). -/
def residueZero (t : List Byte) : Bool := crc8 t == 0x00#8

/-- A half passes its check: one pass of its own over its three bytes (R70, R76). -/
def halfValid (h : Half) : Bool := residueZero h.bytes

/-- Both halves of a group pass, each checked independently (R75, R76). Which is checked first cannot be seen (R90, D14). -/
def groupValid (g : FloatGroup) : Bool := halfValid g.first && halfValid g.second

/-- All six halves of a block pass (R78). -/
def blockValid (m : MeasBlock) : Bool := groupValid m.co2 && groupValid m.temp && groupValid m.rh

end Sys2Proof.Machine
end

