-- ==== Sys2Proof/Machine/Operands.lean ====
section
/-! DEFINITION. Operand assembly: how values are split into bytes and joined from them, big-endian
(spec/20_memory.md R21, spec/30_encoding.md R39, spec/42_word_decode.md R72). -/

namespace Sys2Proof.Machine

/-- `hi(v) = v[15:8]` (R39, spec/00_scope.md section 5.2). -/
def hiByte (v : Word) : Byte := v.extractLsb' 8 8

/-- `lo(v) = v[7:0]` (R39, spec/00_scope.md section 5.2). -/
def loByte (v : Word) : Byte := v.extractLsb' 0 8

/-- A 16-bit value as two bytes, the most significant first (R21). -/
def wordBytes (v : Word) : List Byte := [hiByte v, loByte v]

/-- `word = {w0, w1} = (zext_16(w0) << 8) | zext_16(w1)`: the high byte is widened first, then shifted, then the low byte is
ORed in (R39, R72). -/
def joinWord (hi lo : Byte) : Word := (hi.setWidth 16 <<< 8) ||| lo.setWidth 16

/-- `fbits = {b0, b1, b2, b3}`, the first byte most significant (R21, R39). -/
def joinPattern (b0 b1 b2 b3 : Byte) : Pattern := b0 ++ b1 ++ b2 ++ b3

end Sys2Proof.Machine
end

