-- ==== Sys2Proof/Decode.lean ====
section
/-! DEFINITION. From the fields a host hands over to a request, and back (spec/30_encoding.md R31, R41; spec/10_state.md R12).
The spec leaves open how the fields are carried (R31, D20); the `Packet` below is the model's carrier (DESIGN CHOICE, log
entry 1): the selector and `wcrc` on lines of their own widths, every other field in one operand buffer with its length. -/

namespace Sys2Proof

/-- A request as the host presents it, before it is decoded (DESIGN CHOICE, log entry 1). -/
structure Packet where
  /-- The 3-bit operation selector (R31). -/
  op : BitVec 3
  /-- The 1-bit operand field `wcrc`; only format P has it (R31), the other formats do not look at it (R12). -/
  wcrc : BitVec 1
  /-- The bytes of the other operand fields, in the order of R31, 16-bit fields big-endian (R21). -/
  operands : List Byte
  deriving DecidableEq, Repr

/-- The eight rows the selector names (R31), before any operand is looked at (R90). -/
inductive Selector where
  | crc8 | bcmd | barg | bpay | dword | dflt | dmeas | rsvd7
  deriving DecidableEq, Repr

/-- Why a packet carries no request. -/
inductive DecodeError where
  /-- The operand buffer has `n` bytes, which is not the length of the row's format: "a request with another length does not
  exist" (R12, D11). -/
  | operandLength (row : Selector) (n : Nat)
  deriving DecidableEq, Repr

/-- The value of `op` for each row (R31). -/
def Selector.bits : Selector → BitVec 3
  | .crc8 => 0b000#3
  | .bcmd => 0b001#3
  | .barg => 0b010#3
  | .bpay => 0b011#3
  | .dword => 0b100#3
  | .dflt => 0b101#3
  | .dmeas => 0b110#3
  | .rsvd7 => 0b111#3

/-- The row a selector value names (R31); total, since three bits have eight values. -/
def selectorOf (op : BitVec 3) : Selector :=
  match op.toFin with
  | 0 => .crc8
  | 1 => .bcmd
  | 2 => .barg
  | 3 => .bpay
  | 4 => .dword
  | 5 => .dflt
  | 6 => .dmeas
  | 7 => .rsvd7

/-- Exactly three bytes `[data_hi, data_lo, crc]` (R12, R36). -/
def halfOfBytes : List Byte → Option Half
  | [hi, lo, crc] => some ⟨hi, lo, crc⟩
  | _ => none

/-- Exactly six bytes: the halves are `g[0..3)` and `g[3..6)` (R12, R28, R37). -/
def groupOfBytes (bs : List Byte) : Option FloatGroup :=
  match halfOfBytes (bs.take Config.wordBytes), halfOfBytes (bs.drop Config.wordBytes) with
  | some a, some b => some ⟨a, b⟩
  | _, _ => none

/-- Exactly eighteen bytes: the groups are `m[6k .. 6k+6)` for `k = 0, 1, 2`, in the order CO2, temperature, humidity
(R12, R28, R38). -/
def blockOfBytes (bs : List Byte) : Option MeasBlock :=
  match groupOfBytes (bs.take Config.groupBytes),
        groupOfBytes ((bs.drop Config.groupBytes).take Config.groupBytes),
        groupOfBytes (bs.drop (2 * Config.groupBytes)) with
  | some a, some b, some c => some ⟨a, b, c⟩
  | _, _, _ => none

/-- The operand fields of each format (R31). Format R has no operand field and looks at none (R41, R90). -/
def decodeFields (row : Selector) (wcrc : BitVec 1) (bs : List Byte) : Option Instr :=
  match row with
  | .crc8 => some (.crc8 bs)
  | .bcmd =>
    match bs with
    | [c1, c0] => some (.bcmd (Machine.joinWord c1 c0))
    | _ => none
  | .barg =>
    match bs with
    | [c1, c0, a1, a0] => some (.barg (Machine.joinWord c1 c0) (Machine.joinWord a1 a0))
    | _ => none
  | .bpay =>
    match bs with
    | c1 :: c0 :: data => some (.bpay (Machine.joinWord c1 c0) data wcrc)
    | _ => none
  | .dword => (halfOfBytes bs).map Instr.dword
  | .dflt => (groupOfBytes bs).map Instr.dflt
  | .dmeas => (blockOfBytes bs).map Instr.dmeas
  | .rsvd7 => some .rsvd7

/-- The request a packet carries. The selector is decoded first (R90) and alone decides the format (R31). -/
def decode (p : Packet) : Except DecodeError Instr :=
  match decodeFields (selectorOf p.op) p.wcrc p.operands with
  | some i => .ok i
  | none => .error (.operandLength (selectorOf p.op) p.operands.length)

/-- The row of a request (R31). -/
def Instr.row : Instr → Selector
  | .crc8 _ => .crc8
  | .bcmd _ => .bcmd
  | .barg _ _ => .barg
  | .bpay _ _ _ => .bpay
  | .dword _ => .dword
  | .dflt _ => .dflt
  | .dmeas _ => .dmeas
  | .rsvd7 => .rsvd7

/-- The bytes of a request's operand fields, in the order of R31, big-endian (R21). -/
def Instr.operandBytes : Instr → List Byte
  | .crc8 data => data
  | .bcmd code => Machine.wordBytes code
  | .barg code arg => Machine.wordBytes code ++ Machine.wordBytes arg
  | .bpay code data _ => Machine.wordBytes code ++ data
  | .dword w => w.bytes
  | .dflt g => g.bytes
  | .dmeas m => m.bytes
  | .rsvd7 => []

/-- The value of the `wcrc` line: the field of BPAY, 0 for the formats that have no such field (R31). -/
def Instr.wcrcLine : Instr → BitVec 1
  | .bpay _ _ wcrc => wcrc
  | .crc8 _ => 0#1
  | .bcmd _ => 0#1
  | .barg _ _ => 0#1
  | .dword _ => 0#1
  | .dflt _ => 0#1
  | .dmeas _ => 0#1
  | .rsvd7 => 0#1

/-- The packet that carries a request. -/
def encode (i : Instr) : Packet :=
  { op := i.row.bits, wcrc := i.wcrcLine, operands := i.operandBytes }

/-- The fewest operand bytes of a row's format (R12): all of them for a format of fixed length, the two bytes of `code` for
format P, none for format N. -/
def Selector.minOperandBytes : Selector → Nat
  | .crc8 => 0
  | .bcmd => 2
  | .barg => 4
  | .bpay => 2
  | .dword => Config.wordBytes
  | .dflt => Config.groupBytes
  | .dmeas => Config.blockBytes
  | .rsvd7 => 0

/-- `n` bytes of a number, the least significant first. -/
def bytesOfNat : Nat → Nat → List Byte
  | 0, _ => []
  | n + 1, w => BitVec.ofNat 8 w :: bytesOfNat n (w / 256)

/-- The packet for a word numbered as spec/opcode_table.json numbers it (log entry 8): bits 2..0 are the selector, the rest of
the first byte belongs to no field, and operand bytes follow from bit 8 on. The operand bytes that `nbits` does not reach are
zeros, as many as the format needs, and the `wcrc` line is 0. -/
def tablePacket (nbits w : Nat) : Packet :=
  let op := BitVec.ofNat 3 w
  let given := bytesOfNat ((nbits + 7) / 8 - 1) (w / 256)
  { op := op
    wcrc := 0#1
    operands := given ++ List.replicate ((selectorOf op).minOperandBytes - given.length) 0#8 }

/-- The request the decoder reads from a word of the opcode table (the host's question). -/
def decodeTableWord (nbits w : Nat) : Option Instr :=
  match decode (tablePacket nbits w) with
  | .ok i => some i
  | .error _ => none

end Sys2Proof
end

