-- ==== Sys2Proof/Machine/State.lean ====
section
/-! DEFINITION. The state of a run of the block. The block itself keeps nothing between operations (spec/10_state.md R10, R15
to R18, R20); what a run shows is the requests the host issues and the responses it gets (R12, R13, spec/70_reset_and_hazards.md
R108), and those, with the instance's parameter (spec/00_scope.md R9), are the fields here (DESIGN CHOICE, log entry 2). -/

namespace Sys2Proof.Machine

/-- The kinds of error a response can carry (spec/60_exceptions.md R85). -/
inductive ErrorKind where
  /-- TRANSPORT: the session's, never raised by the block (R86). -/
  | transport
  /-- NO_DATA: the session's, never raised by the block (R86). -/
  | noData
  /-- CRC_ERROR: raised by DWORD, DFLT and DMEAS (R87). -/
  | crcError
  /-- NOT_IMPLEMENTED: raised by the reserved selector (R89). -/
  | notImplemented
  deriving DecidableEq, Repr

/-- The result fields of a response whose status is OK, one shape per result format (R13). -/
inductive Result where
  /-- `crc` of CRC8. -/
  | crc (crc : Byte)
  /-- `frame` of BCMD, BARG and BPAY. -/
  | frame (bytes : List Byte)
  /-- `word` of DWORD. -/
  | word (word : Word)
  /-- `fbits` of DFLT: a bit pattern (R14). -/
  | fbits (fbits : Pattern)
  /-- `co2`, `temp` and `rh` of DMEAS: bit patterns (R14). -/
  | meas (co2 temp rh : Pattern)
  deriving DecidableEq, Repr

/-- A response (R13, R32). An error carries its kind and nothing else (R88); result fields exist only with OK (D10). -/
inductive Response where
  | ok (result : Result)
  | error (kind : ErrorKind)
  deriving DecidableEq, Repr

/-- What the host does to the block between operations. -/
inductive HostInput where
  /-- The host issues a request (R7). -/
  | request (p : Packet)
  /-- The host asserts reset (R100). -/
  | reset
  deriving DecidableEq, Repr

/-- The state of a run. -/
structure State where
  /-- The parameter of the instance (R9); no operation writes it. -/
  config : Config
  /-- What the host will do, next first (R7, R25). -/
  pending : List HostInput
  /-- The responses given so far, oldest first (R25, R108). They are the host's; the block reads none of them (R29). -/
  responses : List Response
  deriving DecidableEq, Repr

/-- The machine faults of the block: none. A CRC_ERROR or NOT_IMPLEMENTED response is a defined outcome, and no request makes
the block trap, hang or reach an undefined state (R92's note, R108; log entry 10). -/
inductive Fault where
  deriving DecidableEq, Repr

/-- Why a step has no next state. -/
inductive Refusal where
  /-- Raised by an arm of `exec` whose instruction has no meaning yet; no arm is left so. Safe: the machine stops. -/
  | notModelled (mnemonic : String)
  /-- Raised by the step for a packet that carries no request, because its operand buffer has not the length of its format: "a
  request with another length does not exist" (R12, D11). Safe: the machine stops where the spec gives no behaviour. -/
  | noSuchRequest (reason : DecodeError)
  /-- Raised by CRC8 and BPAY for data of `length` bytes over a set `MAXLEN`: the request "is not accepted at all" and has no
  response (R49, D4, U10 `refuse`). Safe: the machine stops where the spec gives no response. -/
  | notAccepted (length : Nat)
  deriving DecidableEq, Repr

/-- After reset the block is idle, no response is pending (R20, R100), and `MAXLEN` is the default of R9. -/
def State.reset : State := { config := Config.default, pending := [], responses := [] }

end Sys2Proof.Machine
end

