-- ==== Sys2Proof/Machine/Ops.lean ====
section
/-! DEFINITION. The named operations every meaning is written with: answering a request (`respond`, `respondOk`, `raise`), the
acceptance of a byte sequence, taking the next host input, and reading a response. The block has no registers and no memory
(spec/10_state.md R10, R15), so there is no other access to state. -/

namespace Sys2Proof.Machine

/-- The outcome type of a step. -/
abbrev Outcome := Host.Outcome State Fault Refusal

/-- The state after a response has been given to the host (R13, R25). Nothing else changes, since the block keeps nothing
(R10). -/
def State.respond (s : State) (r : Response) : State := { s with responses := s.responses ++ [r] }

/-- `respond OK(fields)`: ends the operation with status OK (spec/00_scope.md section 5.3). -/
def respondOk (result : Result) (s : State) : Outcome := .next (s.respond (.ok result))

/-- `raise <Exception>()`, taking an exception: the operation ends at once with an error response that holds the kind and no
result; nothing is saved, no mode changes and control goes nowhere (R88, R91). There is no return from it and nothing to
restore: the next request is served as if the error had not happened (R92). -/
def raise (kind : ErrorKind) (s : State) : Outcome := .next (s.respond (.error kind))

/-- A request whose byte sequence has `n` bytes is served only when `n` is within `MAXLEN`; otherwise it is not accepted and
has no response (R9, R49, R62, D4). -/
def whenAccepted (n : Nat) (s : State) (serve : Outcome) : Outcome :=
  if s.config.accepts n then serve else .refused (.notAccepted n)

/-- The codes of the error kinds in the 3-bit field `status` (R85). -/
def ErrorKind.code : ErrorKind → BitVec 3
  | .transport => 1#3
  | .noData => 2#3
  | .crcError => 3#3
  | .notImplemented => 4#3

/-- The 3-bit field `status` of a response (R13, R32, R85): 0 is OK. -/
def Response.status : Response → BitVec 3
  | .ok _ => 0#3
  | .error kind => kind.code

/-- The result fields of a response; with a status that is not OK there are none (R13, R32, R105). -/
def Response.result? : Response → Option Result
  | .ok result => some result
  | .error _ => none

/-- The block takes the next host input off the list; `none` when there is none and the block is idle (R25, R100). -/
def nextInput (s : State) : Option (HostInput × State) :=
  match s.pending with
  | [] => none
  | input :: rest => some (input, { s with pending := rest })

/-- A reset between requests is a no-op: there is no state to reset, and the responses already given are the host's
(R100, log entry 5). -/
def takeReset (s : State) : Outcome := .next s

/-- An idle block with no request does nothing: it only answers requests (R93, log entry 4). -/
def idle (s : State) : Outcome := .next s

/-- A packet that carries no request is refused (R12, log entry 1). -/
def refusePacket (reason : DecodeError) : Outcome := .refused (.noSuchRequest reason)

/-- The host issues the packet as its next request. -/
def State.issue (s : State) (p : Packet) : State := { s with pending := .request p :: s.pending }

end Sys2Proof.Machine
end

