-- ==== Sys2Proof/Machine/FloatDecode.lean ====
section
/-! DEFINITION. The float reassembler: DFLT and DMEAS (spec/43_float_decode.md R75 to R83). It does no floating-point arithmetic
and no range validation: every bit pattern is passed through unchanged (R77, R83). -/

namespace Sys2Proof.Machine

/-- `{g[0], g[1], g[3], g[4]}`: the two CRC bytes are skipped (R39, R75). -/
def groupPattern (g : FloatGroup) : Pattern :=
  joinPattern g.first.hi g.first.lo g.second.hi g.second.lo

/-- DFLT (R75). -/
def execDflt (g : FloatGroup) (s : State) : Outcome :=
  if groupValid g then respondOk (.fbits (groupPattern g)) s else raise .crcError s

/-- DMEAS (R78): all three values or none (R80), group 0 as CO2, group 1 as temperature, group 2 as humidity (R79). -/
def execDmeas (m : MeasBlock) (s : State) : Outcome :=
  if blockValid m then
    respondOk (.meas (groupPattern m.co2) (groupPattern m.temp) (groupPattern m.rh)) s
  else raise .crcError s

end Sys2Proof.Machine
end

