-- ==== Sys2Proof/Machine/FrameEncode.lean ====
section
/-! DEFINITION. The command frame encoder: BCMD, BARG, BPAY (spec/41_frame_encode.md R60 to R67). The code is not looked up in
the command table and no operand is range-checked (R66). -/

namespace Sys2Proof.Machine

/-- The frame of BCMD: `[code[15:8], code[7:0]]`, no CRC byte (R33, R60, R63). -/
def commandFrame (code : Word) : List Byte := wordBytes code

/-- The frame of BARG: the code, the argument, and the CRC over the two argument bytes only (R34, R61, R63). -/
def argumentFrame (code arg : Word) : List Byte :=
  wordBytes code ++ wordBytes arg ++ [crc8 (wordBytes arg)]

/-- The frame of BPAY: the code, the payload, and one CRC over the whole payload exactly when `wcrc = 1` and the payload is not
empty (R35, R62, R64). -/
def payloadFrame (code : Word) (data : List Byte) (wcrc : BitVec 1) : List Byte :=
  let f := wordBytes code ++ data
  if wcrc = 1#1 ∧ 0 < data.length then f ++ [crc8 data] else f

/-- BCMD (R60). -/
def execBcmd (code : Word) (s : State) : Outcome := respondOk (.frame (commandFrame code)) s

/-- BARG (R61). -/
def execBarg (code arg : Word) (s : State) : Outcome := respondOk (.frame (argumentFrame code arg)) s

/-- BPAY (R62). -/
def execBpay (code : Word) (data : List Byte) (wcrc : BitVec 1) (s : State) : Outcome :=
  whenAccepted data.length s (respondOk (.frame (payloadFrame code data wcrc)) s)

end Sys2Proof.Machine
end

