-- ==== Sys2Proof/Machine/Generator.lean ====
section
/-! DEFINITION. The CRC-8 generator: the operation CRC8 (spec/40_crc8.md R49). -/

namespace Sys2Proof.Machine

/-- CRC8 (R49): the checksum of `data`; always OK when the request is accepted. -/
def execCrc8 (data : List Byte) (s : State) : Outcome :=
  whenAccepted data.length s (respondOk (.crc (crc8 data)) s)

end Sys2Proof.Machine
end

