-- ==== Sys2Proof/Machine/Reserved.lean ====
section
/-! DEFINITION. The reserved selector (spec/30_encoding.md R41, spec/60_exceptions.md R89). -/

namespace Sys2Proof.Machine

/-- RSVD7 (R41): NOT_IMPLEMENTED and no result; nothing else happens and the next request is served normally. -/
def execRsvd7 (s : State) : Outcome := raise .notImplemented s

end Sys2Proof.Machine
end

