-- ==== Sys2Proof/Machine/WordDecode.lean ====
section
/-! DEFINITION. The response word decoder: DWORD (spec/42_word_decode.md R70 to R73). -/

namespace Sys2Proof.Machine

/-- DWORD (R70): the word is delivered only after its residue is zero (R71), high byte first (R72); otherwise CrcError. -/
def execDword (w : Half) (s : State) : Outcome :=
  if halfValid w then respondOk (.word (joinWord w.hi w.lo)) s else raise .crcError s

end Sys2Proof.Machine
end

