-- ==== Sys2Proof/Machine/Dispatch.lean ====
section
/-! DEFINITION. One arm per row of spec/opcode_table.json, in the table's order. -/

namespace Sys2Proof.Machine

def exec (i : Instr) (s : State) : Host.Outcome State Fault Refusal :=
  match i with
  | .crc8 data => Sys2Proof.Machine.execCrc8 data s
  | .bcmd code => Sys2Proof.Machine.execBcmd code s
  | .barg code arg => Sys2Proof.Machine.execBarg code arg s
  | .bpay code data wcrc => Sys2Proof.Machine.execBpay code data wcrc s
  | .dword w => Sys2Proof.Machine.execDword w s
  | .dflt g => Sys2Proof.Machine.execDflt g s
  | .dmeas m => Sys2Proof.Machine.execDmeas m s
  | .rsvd7 => Sys2Proof.Machine.execRsvd7 s

end Sys2Proof.Machine
end

