-- ==== Sys2Proof/Machine/Step.lean ====
section
/-! DEFINITION. One step: the next thing the host does, served to its end (spec/20_memory.md R24, R25). -/

namespace Sys2Proof.Machine

/-- One step. A request is taken off the list, decoded, and answered; a reset is a no-op (R100); with nothing pending the
block stays idle. -/
def step (s : State) : Host.Outcome State Fault Refusal :=
  match nextInput s with
  | none => idle s
  | some (.reset, t) => takeReset t
  | some (.request p, t) =>
    match decode p with
    | .ok i => exec i t
    | .error e => refusePacket e

/-- `s` with the request of an opcode-table word issued as the next one (the host's question; log entry 7). -/
def State.withFetchWord (s : State) (nbits w : Nat) : State := s.issue (tablePacket nbits w)

end Sys2Proof.Machine
end

