-- ==== Sys2Proof/Machine/Commands.lean ====
section
/-! DEFINITION. The command codes of the surrounding protocol (spec/30_encoding.md R40): data a host feeds the encoder with. The
block's encoder takes any 16-bit code and does not look it up here (R41, R66). -/

namespace Sys2Proof.Machine

/-- The eleven commands of R40. -/
inductive Command where
  | startContinuous | stopContinuous | setInterval | getDataReady | getMeasurement | autoSelfCal
  | forcedRecalFactor | temperatureOffset | altitudeCompensation | reset | getFirmwareVersion
  deriving DecidableEq, Repr

/-- The fixed constant of each command (R40). -/
def commandCode : Command → Word
  | .startContinuous => 0x0010#16
  | .stopContinuous => 0x0104#16
  | .setInterval => 0x4600#16
  | .getDataReady => 0x0202#16
  | .getMeasurement => 0x0300#16
  | .autoSelfCal => 0x5306#16
  | .forcedRecalFactor => 0x5204#16
  | .temperatureOffset => 0x5403#16
  | .altitudeCompensation => 0x5102#16
  | .reset => 0xD304#16
  | .getFirmwareVersion => 0xD100#16

end Sys2Proof.Machine
end

