-- ==== Sys2Proof/Machine/Pseudo.lean ====
section
/-! DEFINITION. The pseudo-operations of spec/30_encoding.md R44: a request of the block, and what the host makes of the
response. None adds behaviour to the block. -/

namespace Sys2Proof.Machine

/-- The request of `VERIFY t`: `CRC8 t` (R44). -/
def verifyRequest (t : List Byte) : Instr := .crc8 t

/-- What `VERIFY` gives from the response: `r = 0x00` (R44); nothing unless the response is an OK with a checksum (R105). -/
def verifyOutcome : Response → Option Bool
  | .ok (.crc r) => some (r == 0x00#8)
  | .ok _ => none
  | .error _ => none

/-- The request of `SEAL s`: `CRC8 s` (R44). -/
def sealRequest (s : List Byte) : Instr := .crc8 s

/-- What `SEAL s` gives from the response: `s ++ [c]` (R44); nothing unless the response is an OK with a checksum (R105). -/
def sealOutcome (s : List Byte) : Response → Option (List Byte)
  | .ok (.crc c) => some (s ++ [c])
  | .ok _ => none
  | .error _ => none

/-- `BARG code, arg` written with BPAY: `BPAY code, [arg[15:8], arg[7:0]], 1` (R44, R65). -/
def bargAsBpay (code arg : Word) : Instr := .bpay code [hiByte arg, loByte arg] 1#1

end Sys2Proof.Machine
end

