-- ==== Sys2Proof/WellFormed.lean ====
section
/-! DEFINITION. Which requests exist for an instance of the block (spec/00_scope.md R9, spec/30_encoding.md R41).
The fixed lengths of R12 are in the types, so the bound MAXLEN is the one check left. -/

namespace Sys2Proof

/-- The request exists for an instance with the configuration `c`: the byte sequence of CRC8 and BPAY is within `MAXLEN`
(R9, R49, R62, D4). Every value of every other operand field is legal (R41). -/
def Instr.wellFormed (c : Config) : Instr → Bool
  | .crc8 data => c.accepts data.length
  | .bcmd _ => true
  | .barg _ _ => true
  | .bpay _ data _ => c.accepts data.length
  | .dword _ => true
  | .dflt _ => true
  | .dmeas _ => true
  | .rsvd7 => true

end Sys2Proof
end

