-- ==== Sys2Proof/Safety.lean ====
section
/-! DEFINITION. What a safe run of the block is, in the terms the statements use. The block cannot fault (spec/60_exceptions.md
R92's note), so safety here is that only responses the block may give are ever given. -/

namespace Sys2Proof.Machine

/-- A frame length the encoder may produce for an instance: at least the two command bytes and, with `MAXLEN = m` set, at most
five bytes (BARG) or `2 + m + 1` bytes (BPAY) (R42). -/
def frameLengthLegal (c : Config) (n : Nat) : Prop :=
  2 ≤ n ∧ ∀ m, c.maxLen = some m → n ≤ max 5 (m + 3)

/-- A response the block may give (R13, R85, R86): any checksum, word or pattern, a frame of a legal length, or one of the two
errors the block raises. TRANSPORT and NO_DATA are not among them. -/
def Response.producible (c : Config) : Response → Prop
  | .ok (.frame f) => frameLengthLegal c f.length
  | .ok (.crc _) => True
  | .ok (.word _) => True
  | .ok (.fbits _) => True
  | .ok (.meas _ _ _) => True
  | .error .crcError => True
  | .error .notImplemented => True
  | .error .transport => False
  | .error .noData => False

/-- Every response given so far is one the block may give. -/
def State.Inv (s : State) : Prop := ∀ r ∈ s.responses, r.producible s.config

/-- The requests the host has yet to issue. -/
def State.requestsLeft (s : State) : Nat :=
  (s.pending.filter fun input => match input with | .request _ => true | .reset => false).length

/-- The half a sender builds from two data bytes: it appends `crc8` over exactly the two (R106). -/
def sealHalf (hi lo : Byte) : Half := ⟨hi, lo, crc8 [hi, lo]⟩

/-- The group a sender builds for a pattern: `b0` = bits 31:24, `b1` = 23:16, `b3` = 15:8, `b4` = 7:0, each half sealed (R37). -/
def sealGroup (p : Pattern) : FloatGroup :=
  ⟨sealHalf (p.extractLsb' 24 8) (p.extractLsb' 16 8), sealHalf (p.extractLsb' 8 8) (p.extractLsb' 0 8)⟩

end Sys2Proof.Machine
end

