-- ==== Sys2Proof/Certificates/Slice0/Obligations.lean ====
section
/-! DEFINITION. The statements for the provers, in the order of the spec's files. Each docstring names the rules of spec/ it
formalises. A response list is written out as a record update, so that every statement about a next state says all of it: the
configuration and the pending inputs are unchanged, and exactly the named response is added. -/

open Sys2Proof Sys2Proof.Machine

/-! ## Requests and their carrier -/

/-- Every request is read back from the packet that carries it (R12, R31; the packet is the model's, log entry 1). -/
def Obligations.RequestReadsBackFromItsPacket : Prop :=
  ∀ i : Instr, decode (encode i) = .ok i

/-- A packet that carries a request is the packet of that request, but for what its format does not look at: the `wcrc` line
outside format P, and operand bytes in format R (R12, R31, R41, R90; log entries 1 and 9). -/
def Obligations.PacketOfADecodedRequest : Prop :=
  ∀ (p : Packet) (i : Instr), decode p = .ok i →
    (encode i).op = p.op ∧ (p.op ≠ 7#3 → (encode i).operands = p.operands) ∧
      (p.op = 3#3 → (encode i).wcrc = p.wcrc)

/-- Which packets carry a request: the length of the operand buffer is that of the format, and any length with the
reserved selector (R12, R31, R41; log entries 1 and 9). -/
def Obligations.PacketCarriesARequestExactlyWhenItsLengthFits : Prop :=
  ∀ p : Packet, (∃ i, decode p = .ok i) ↔
    p.op = 0#3 ∨ (p.op = 1#3 ∧ p.operands.length = 2) ∨ (p.op = 2#3 ∧ p.operands.length = 4) ∨
      (p.op = 3#3 ∧ 2 ≤ p.operands.length) ∨ (p.op = 4#3 ∧ p.operands.length = 3) ∨
      (p.op = 5#3 ∧ p.operands.length = 6) ∨ (p.op = 6#3 ∧ p.operands.length = 18) ∨ p.op = 7#3

/-- The selector alone decides which operand fields follow, for each of its eight values (R31, R41); 16-bit fields are
big-endian (R21). The packets are the model's (log entries 1 and 9). -/
def Obligations.SelectorDecidesTheFormat : Prop :=
  ∀ (f : BitVec 1) (bs : List Byte) (c1 c0 a1 a0 w0 w1 w2 w3 w4 w5 : Byte),
    decode ⟨0#3, f, bs⟩ = .ok (.crc8 bs) ∧
    decode ⟨1#3, f, [c1, c0]⟩ = .ok (.bcmd (c1 ++ c0)) ∧
    decode ⟨2#3, f, [c1, c0, a1, a0]⟩ = .ok (.barg (c1 ++ c0) (a1 ++ a0)) ∧
    decode ⟨3#3, f, c1 :: c0 :: bs⟩ = .ok (.bpay (c1 ++ c0) bs f) ∧
    decode ⟨4#3, f, [w0, w1, w2]⟩ = .ok (.dword ⟨w0, w1, w2⟩) ∧
    decode ⟨5#3, f, [w0, w1, w2, w3, w4, w5]⟩ = .ok (.dflt ⟨⟨w0, w1, w2⟩, ⟨w3, w4, w5⟩⟩) ∧
    (∀ m : MeasBlock, decode ⟨6#3, f, m.co2.bytes ++ m.temp.bytes ++ m.rh.bytes⟩ = .ok (.dmeas m)) ∧
    decode ⟨7#3, f, bs⟩ = .ok .rsvd7

/-- A few requests with the selector values of R31 and the operand values of spec/95_test_vectors.md section 3, carried in the model's
packet (log entry 1), decode to what they stand for. DMEAS is in `SelectorDecidesTheFormat`. -/
def Obligations.RequestsOfTheTestProgramsDecode : Prop :=
  decode ⟨0b000#3, 0#1, [0x17, 0x10, 0x19, 0x73]⟩ = .ok (.crc8 [0x17, 0x10, 0x19, 0x73]) ∧
  decode ⟨0b001#3, 0#1, [0x46, 0x00]⟩ = .ok (.bcmd 0x4600#16) ∧
  decode ⟨0b010#3, 0#1, [0x46, 0x00, 0x00, 0x02]⟩ = .ok (.barg 0x4600#16 0x0002#16) ∧
  decode ⟨0b011#3, 1#1, [0x10, 0x0A, 0x12, 0x34]⟩ = .ok (.bpay 0x100A#16 [0x12, 0x34] 1#1) ∧
  decode ⟨0b100#3, 0#1, [0xBE, 0xEF, 0x92]⟩ = .ok (.dword ⟨0xBE, 0xEF, 0x92⟩) ∧
  decode ⟨0b101#3, 0#1, [0x3F, 0x80, 0xD0, 0x00, 0x00, 0x81]⟩ =
    .ok (.dflt ⟨⟨0x3F, 0x80, 0xD0⟩, ⟨0x00, 0x00, 0x81⟩⟩) ∧
  decode ⟨0b111#3, 0#1, []⟩ = .ok .rsvd7

/-! ## Steps, reset and idling -/

/-- When the next thing the host does is a request, a step takes it off the list and is `exec` of it (R7, R25). -/
def Obligations.StepRunsTheDecodedRequest : Prop :=
  ∀ (s : State) (p : Packet) (rest : List HostInput) (i : Instr),
    s.pending = .request p :: rest → decode p = .ok i → step s = exec i { s with pending := rest }

/-- A packet that carries no request is refused, with the reason its decoding gives (R12; the refusal is the model's, log
entry 1). -/
def Obligations.StepRefusesAPacketThatCarriesNoRequest : Prop :=
  ∀ (s : State) (p : Packet) (rest : List HostInput) (e : DecodeError),
    s.pending = .request p :: rest → decode p = .error e → step s = .refused (.noSuchRequest e)

/-- A reset between requests changes nothing but that it has been taken (R100; log entry 5). -/
def Obligations.ResetBetweenRequestsIsANoOp : Prop :=
  ∀ (s : State) (rest : List HostInput), s.pending = .reset :: rest → step s = .next { s with pending := rest }

/-- With nothing pending the block stays as it is (the model's choice, log entry 4; R93: the block only answers requests). -/
def Obligations.IdleBlockStaysIdle : Prop :=
  ∀ s : State, s.pending = [] → step s = .next s

/-- After reset nothing is pending, no response has been given (R20) and MAXLEN is not set (R9; that these are fields of the
state is the model's choice, log entries 2 and 3). -/
def Obligations.ResetStateIsIdle : Prop :=
  State.reset.pending = [] ∧ State.reset.responses = [] ∧ State.reset.config.maxLen = none

/-! ## The CRC-8 functions -/

/-- One shift iteration and one byte, in numbers (R45, R46). -/
def Obligations.ShiftIterationAndByteStep : Prop :=
  (∀ a : Byte, (crc8Bit a).toNat =
    if a.toNat < 128 then 2 * a.toNat else (2 * a.toNat - 256) ^^^ 0x31) ∧
  (∀ acc b : Byte, crc8Step acc b = crc8Bit^[8] (acc ^^^ b))

/-- A pass takes the bytes in index order, from a given accumulator, and a checksum starts from 0xFF (R47, R48). -/
def Obligations.PassFoldsTheBytesFromInit : Prop :=
  (∀ (acc : Byte) (s : List Byte), crc8Acc acc s = s.foldl crc8Step acc) ∧
  (∀ s : List Byte, crc8 s = s.foldl crc8Step 0xFF#8)

/-- The checksum is the general CRC, a register that takes the message bit by bit, at the values R8 gives its parameters: polynomial
0x31, initial value 0xFF, no reflection of input or result, no final XOR (R3, R8, R22). -/
def Obligations.ChecksumHasNoReflectionAndNoFinalXor : Prop :=
  Config.poly = 0x31#8 ∧ Config.init = 0xFF#8 ∧ Config.refin = false ∧ Config.refout = false ∧ Config.xorout = 0x00#8 ∧
  ∀ s : List Byte, crc8 s = catalogueCrc Config.poly Config.init Config.refin Config.refout Config.xorout s

/-- CRC as polynomial remainder modulo x^8 + x^5 + x^4 + 1 (R50): one iteration, one byte, and a whole non-empty sequence read
as the big-endian number M. -/
def Obligations.ChecksumIsThePolynomialRemainder : Prop :=
  (∀ a : Byte, (crc8Bit a).toNat = polyMod 1 (a.toNat <<< 1)) ∧
  (∀ acc b : Byte, (crc8Step acc b).toNat = polyMod 8 ((acc ^^^ b).toNat <<< 8)) ∧
  (∀ s : List Byte, s ≠ [] → (crc8 s).toNat =
    polyMod (8 * s.length) ((beNat 0 s ^^^ (0xFF <<< (8 * (s.length - 1)))) <<< 8))

/-- Zero-residue law (R51). -/
def Obligations.ZeroResidueLaw : Prop :=
  ∀ s : List Byte, crc8 (s ++ [crc8 s]) = 0x00#8

/-- Verification equivalence (R52). -/
def Obligations.VerificationEquivalence : Prop :=
  ∀ (s : List Byte) (c : Byte), crc8 (s ++ [c]) = 0x00#8 ↔ c = crc8 s

/-- The shift iteration is undone by the formula R52 gives, and keeps 0 (R52's reason). -/
def Obligations.ShiftIterationIsABijection : Prop :=
  crc8Bit 0#8 = 0#8 ∧
  (∀ a : Byte, (((crc8Bit a) ^^^ (if (crc8Bit a).getLsbD 0 then 0x31#8 else 0#8)) >>> 1) |||
    ((crc8Bit a) <<< 7) = a) ∧
  (∀ r : Byte, ∃ a : Byte, crc8Bit a = r)

/-- Incremental law (R53). -/
def Obligations.IncrementalLaw : Prop :=
  ∀ (acc : Byte) (s t : List Byte), crc8Acc acc (s ++ t) = crc8Acc (crc8Acc acc s) t

/-- Table form (R54): the printed table holds the steps from 0, a step is one look-up, and the table is a bijection that keeps
0. -/
def Obligations.TableFormOfTheByteStep : Prop :=
  crcTable.length = 256 ∧ crcTable.Nodup ∧ crcTable[0]? = some 0x00#8 ∧
  (∀ i : Byte, crcTable[i.toNat]? = some (crc8Step 0x00#8 i)) ∧
  (∀ acc b : Byte, crc8Step acc b = crc8TableStep acc b)

/-- Empty input (R55): its checksum is INIT, its codeword has residue 0, and the encoder never uses it. -/
def Obligations.ChecksumOfTheEmptyInput : Prop :=
  crc8 [] = 0xFF#8 ∧ crc8 ([] ++ [0xFF#8]) = 0x00#8 ∧
  (∀ (code : Word) (wcrc : BitVec 1) (s : State), s.config.accepts 0 = true →
    exec (.bpay code [] wcrc) s =
      .next { s with responses := s.responses ++ [.ok (.frame [code.extractLsb' 8 8, code.extractLsb' 0 8])] })

/-- A codeword changed in exactly one byte, the checksum byte included, never has residue 0 (R56's law). -/
def Obligations.SingleByteCorruptionIsDetected : Prop :=
  ∀ (s : List Byte) (k : Nat) (b : Byte), k < (s ++ [crc8 s]).length →
    (s ++ [crc8 s])[k]? ≠ some b → crc8 ((s ++ [crc8 s]).set k b) ≠ 0x00#8

/-- A 3-byte codeword changed in 1, 2 or 3 of its 24 bits never has residue 0, and two codewords that differ in 4 bits exist
(R56's last paragraph). The change is a 24-bit pattern XORed on. -/
def Obligations.ThreeBitChangesOfACodewordAreDetected : Prop :=
  (∀ (b0 b1 : Byte) (i j k : Fin 24), let e : BitVec 24 := (1#24 <<< i.val) ||| (1#24 <<< j.val) ||| (1#24 <<< k.val)
    crc8 [b0 ^^^ e.extractLsb' 16 8, b1 ^^^ e.extractLsb' 8 8, crc8 [b0, b1] ^^^ e.extractLsb' 0 8] ≠ 0x00#8) ∧
  crc8 [0x00, 0x01, 0xB0] = 0x00#8 ∧ crc8 [0x00, 0x00, 0x81] = 0x00#8

/-- Linearity (R57). -/
def Obligations.ChecksumPassIsLinear : Prop :=
  ∀ (a a' : Byte) (s s' : List Byte), s.length = s'.length →
    crc8Acc (a ^^^ a') (List.zipWith (· ^^^ ·) s s') = crc8Acc a s ^^^ crc8Acc a' s'

/-! ## CRC8 -/

/-- CRC8 (R49): an accepted request is answered OK with the checksum, a request over MAXLEN is not accepted, and the corner
cases: the empty sequence, the only one-byte input with checksum 0, leading zeros, and that any value can result. -/
def Obligations.Crc8AnswersTheChecksum : Prop :=
  (∀ (data : List Byte) (s : State), s.config.accepts data.length = true →
    exec (.crc8 data) s = .next { s with responses := s.responses ++ [.ok (.crc (crc8 data))] }) ∧
  (∀ (data : List Byte) (s : State), s.config.accepts data.length = false →
    exec (.crc8 data) s = .refused (.notAccepted data.length)) ∧
  crc8 [] = 0xFF#8 ∧ (∀ b : Byte, crc8 [b] = 0x00#8 ↔ b = 0xFF#8) ∧
  crc8 [0x00] = 0xAC#8 ∧ crc8 [0x00, 0x00] = 0x81#8 ∧ crc8 [0xBE, 0xEF] = 0x92#8 ∧
  (∀ s : List Byte, crc8 (s ++ [crc8 s]) = 0x00#8) ∧ (∀ v : Byte, ∃ b : Byte, crc8 [b] = v)

/-! ## The encoder -/

/-- BCMD (R60, R33): the two bytes of the code, high byte first, for every code. -/
def Obligations.BcmdBuildsTheCommandFrame : Prop :=
  ∀ (code : Word) (s : State),
    exec (.bcmd code) s =
      .next { s with responses := s.responses ++ [.ok (.frame [code.extractLsb' 8 8, code.extractLsb' 0 8])] }

/-- BARG (R61, R34): five bytes, the CRC over the two argument bytes; the checksums of the two extreme arguments. -/
def Obligations.BargBuildsTheArgumentFrame : Prop :=
  (∀ (code arg : Word) (s : State),
    exec (.barg code arg) s =
      .next { s with responses := s.responses ++ [.ok (.frame
        [code.extractLsb' 8 8, code.extractLsb' 0 8, arg.extractLsb' 8 8, arg.extractLsb' 0 8,
          crc8 [arg.extractLsb' 8 8, arg.extractLsb' 0 8]])] }) ∧
  crc8 [0x00, 0x00] = 0x81#8 ∧ crc8 [0xFF, 0xFF] = 0xAC#8

/-- BPAY (R62, R35, R64): the code, the payload, and one CRC over the payload exactly when `wcrc = 1` and the payload is not
empty; a payload over MAXLEN is not accepted. -/
def Obligations.BpayBuildsThePayloadFrame : Prop :=
  (∀ (code : Word) (data : List Byte) (wcrc : BitVec 1) (s : State), s.config.accepts data.length = true →
    exec (.bpay code data wcrc) s =
      .next { s with responses := s.responses ++ [.ok (.frame
        (code.extractLsb' 8 8 :: code.extractLsb' 0 8 :: data ++
          if wcrc = 1#1 ∧ data ≠ [] then [crc8 data] else []))] }) ∧
  (∀ (code : Word) (data : List Byte) (wcrc : BitVec 1) (s : State), s.config.accepts data.length = false →
    exec (.bpay code data wcrc) s = .refused (.notAccepted data.length)) ∧
  crc8 [0xAB] = 0xBA#8

/-- The bytes after the command code do not depend on the code: the checksum never covers it (R63). -/
def Obligations.ChecksumNeverCoversTheCode : Prop :=
  (∀ (code code' arg : Word) (s : State), ∃ f f' : List Byte,
    exec (.barg code arg) s = .next { s with responses := s.responses ++ [.ok (.frame f)] } ∧
    exec (.barg code' arg) s = .next { s with responses := s.responses ++ [.ok (.frame f')] } ∧
    f.drop 2 = f'.drop 2) ∧
  (∀ (code code' : Word) (data : List Byte) (wcrc : BitVec 1) (s : State), s.config.accepts data.length = true →
    ∃ f f' : List Byte,
      exec (.bpay code data wcrc) s = .next { s with responses := s.responses ++ [.ok (.frame f)] } ∧
      exec (.bpay code' data wcrc) s = .next { s with responses := s.responses ++ [.ok (.frame f')] } ∧
      f.drop 2 = f'.drop 2)

/-- The lengths of the frames the encoder builds, for every operand (R42, R64, R66). -/
def Obligations.FramesHaveTheirLengths : Prop :=
  ∀ (code arg : Word) (data : List Byte) (wcrc : BitVec 1) (s : State), s.config.accepts data.length = true →
    ∃ f1 f2 f3 : List Byte,
      exec (.bcmd code) s = .next { s with responses := s.responses ++ [.ok (.frame f1)] } ∧ f1.length = 2 ∧
      exec (.barg code arg) s = .next { s with responses := s.responses ++ [.ok (.frame f2)] } ∧ f2.length = 5 ∧
      exec (.bpay code data wcrc) s = .next { s with responses := s.responses ++ [.ok (.frame f3)] } ∧
      (wcrc = 0#1 → f3.length = 2 + data.length) ∧
      (wcrc = 1#1 → 0 < data.length → f3.length = 2 + data.length + 1) ∧
      (wcrc = 1#1 → data.length = 0 → f3.length = 2)

/-- BARG is BPAY with the two argument bytes as payload and `wcrc = 1` (R65), where the instance accepts two bytes. -/
def Obligations.BargIsBpayOfItsArgument : Prop :=
  ∀ (code arg : Word) (s : State), s.config.accepts 2 = true →
    exec (.barg code arg) s = exec (.bpay code [arg.extractLsb' 8 8, arg.extractLsb' 0 8] 1#1) s

/-- The eleven command codes and their two frame bytes (R40, R33). -/
def Obligations.CommandCodesAndTheirFrames : Prop :=
  ∀ (s : State) (c : Command), exec (.bcmd (commandCode c)) s =
    .next { s with responses := s.responses ++ [.ok (.frame (match c with
      | .startContinuous => [0x00, 0x10]
      | .stopContinuous => [0x01, 0x04]
      | .setInterval => [0x46, 0x00]
      | .getDataReady => [0x02, 0x02]
      | .getMeasurement => [0x03, 0x00]
      | .autoSelfCal => [0x53, 0x06]
      | .forcedRecalFactor => [0x52, 0x04]
      | .temperatureOffset => [0x54, 0x03]
      | .altitudeCompensation => [0x51, 0x02]
      | .reset => [0xD3, 0x04]
      | .getFirmwareVersion => [0xD1, 0x00]))] }

/-! ## The word decoder -/

/-- The word is `{w0, w1}`: its high byte is `w0`, its low byte `w1`, and it is `w0 * 256 + w1` (R72, R39). -/
def Obligations.WordAssembly : Prop :=
  ∀ hi lo : Byte, joinWord hi lo = (hi.setWidth 16 <<< 8) ||| lo.setWidth 16 ∧
    (joinWord hi lo).extractLsb' 8 8 = hi ∧ (joinWord hi lo).extractLsb' 0 8 = lo ∧
    (joinWord hi lo).toNat = hi.toNat * 256 + lo.toNat

/-- DWORD (R70): the word when the residue is 0, CRC_ERROR when and only when it is not; the comparison with the trailing byte is
the same test; every word is deliverable; all zeros and all ones are rejected. -/
def Obligations.DwordVerifiesAndDecodesAWord : Prop :=
  (∀ (w : Half) (s : State), crc8 [w.hi, w.lo, w.crc] = 0x00#8 →
    exec (.dword w) s = .next { s with responses := s.responses ++ [.ok (.word (w.hi ++ w.lo))] }) ∧
  (∀ (w : Half) (s : State), crc8 [w.hi, w.lo, w.crc] ≠ 0x00#8 →
    exec (.dword w) s = .next { s with responses := s.responses ++ [.error .crcError] }) ∧
  (∀ w : Half, crc8 [w.hi, w.lo, w.crc] = 0x00#8 ↔ crc8 [w.hi, w.lo] = w.crc) ∧
  (∀ (v : Word) (s : State),
    exec (.dword ⟨v.extractLsb' 8 8, v.extractLsb' 0 8, crc8 [v.extractLsb' 8 8, v.extractLsb' 0 8]⟩) s =
      .next { s with responses := s.responses ++ [.ok (.word v)] }) ∧
  crc8 [0x00, 0x00, 0x00] ≠ 0x00#8 ∧ crc8 [0xFF, 0xFF, 0xFF] ≠ 0x00#8

/-- A word is never delivered unchecked: an answer with a word is an answer to a DWORD whose two data bytes have the third byte as
their checksum (R71). -/
def Obligations.WordIsNeverDeliveredUnchecked : Prop :=
  ∀ (i : Instr) (s t : State) (v : Word), exec i s = .next t → t.responses = s.responses ++ [.ok (.word v)] →
    ∃ w : Half, i = .dword w ∧ crc8 [w.hi, w.lo] = w.crc ∧ v = w.hi ++ w.lo

/-! ## The float reassembler -/

/-- DFLT (R75): the pattern when both residues are 0, CRC_ERROR when at least one is not; the comparison form of the test;
every pattern is deliverable; six zero bytes are rejected and the group of the pattern 0 is accepted. -/
def Obligations.DfltVerifiesAndReassemblesAGroup : Prop :=
  (∀ (g : FloatGroup) (s : State), crc8 g.first.bytes = 0x00#8 → crc8 g.second.bytes = 0x00#8 →
    exec (.dflt g) s = .next { s with responses := s.responses ++
      [.ok (.fbits (g.first.hi ++ g.first.lo ++ g.second.hi ++ g.second.lo))] }) ∧
  (∀ (g : FloatGroup) (s : State), crc8 g.first.bytes ≠ 0x00#8 ∨ crc8 g.second.bytes ≠ 0x00#8 →
    exec (.dflt g) s = .next { s with responses := s.responses ++ [.error .crcError] }) ∧
  (∀ h : Half, crc8 h.bytes = 0x00#8 ↔ crc8 [h.hi, h.lo] = h.crc) ∧
  (∀ p : Pattern, ∃ g : FloatGroup, crc8 g.first.bytes = 0x00#8 ∧ crc8 g.second.bytes = 0x00#8 ∧
    g.first.hi ++ g.first.lo ++ g.second.hi ++ g.second.lo = p) ∧
  crc8 [0x00, 0x00, 0x00] ≠ 0x00#8 ∧ crc8 [0x00, 0x00, 0x81] = 0x00#8

/-- The halves are checked independently (R76): DFLT answers OK exactly when each half alone has residue 0, and a single pass over
all six bytes is another check. -/
def Obligations.HalvesAreCheckedIndependently : Prop :=
  (∀ (g : FloatGroup) (s : State),
    (∃ p : Pattern, exec (.dflt g) s = .next { s with responses := s.responses ++ [.ok (.fbits p)] }) ↔
      crc8 g.first.bytes = 0x00#8 ∧ crc8 g.second.bytes = 0x00#8) ∧
  (∃ g : FloatGroup, crc8 (g.first.bytes ++ g.second.bytes) = 0x00#8 ∧ ∀ s : State,
    exec (.dflt g) s = .next { s with responses := s.responses ++ [.error .crcError] })

/-- Every 32-bit pattern is delivered unchanged from the group that carries it, NaNs and infinities included, and the only other
answer of DFLT is CRC_ERROR (R77). -/
def Obligations.EveryPatternPassesUnchanged : Prop :=
  (∀ (p : Pattern) (s : State),
    exec (.dflt (sealGroup p)) s = .next { s with responses := s.responses ++ [.ok (.fbits p)] }) ∧
  (∀ (g : FloatGroup) (s : State), ∃ r : Response,
    exec (.dflt g) s = .next { s with responses := s.responses ++ [r] } ∧
      (r = .error .crcError ∨ r = .ok (.fbits (g.first.hi ++ g.first.lo ++ g.second.hi ++ g.second.lo))))

/-- A valid group changed in exactly one of its six bytes is answered CRC_ERROR; a change in two bytes of one half can pass, and
then the pattern given is delivered: the valid group `[43, CE, 7D, 40, 00, 08]` with its bytes 1 and 2 changed (R82; the pair is
spec/95_test_vectors.md section 2.4's). -/
def Obligations.OneCorruptedByteOfAGroupIsCaught : Prop :=
  (∀ (g g' : FloatGroup) (k : Nat) (b : Byte) (s : State),
    crc8 g.first.bytes = 0x00#8 → crc8 g.second.bytes = 0x00#8 → k < 6 → g.bytes[k]? ≠ some b →
    g'.bytes = g.bytes.set k b →
      exec (.dflt g') s = .next { s with responses := s.responses ++ [.error .crcError] }) ∧
  (∃ g g' : FloatGroup, g.bytes = [0x43, 0xCE, 0x7D, 0x40, 0x00, 0x08] ∧
    crc8 g.first.bytes = 0x00#8 ∧ crc8 g.second.bytes = 0x00#8 ∧
    g'.bytes = (g.bytes.set 1 0xCF).set 2 0x4C ∧ g.bytes[1]? ≠ g'.bytes[1]? ∧ g.bytes[2]? ≠ g'.bytes[2]? ∧
    ∀ s : State, exec (.dflt g') s =
      .next { s with responses := s.responses ++ [.ok (.fbits 0x43CF4000#32)] })

/-- DMEAS (R78, R79): the three patterns, in the order CO2, temperature, humidity, when all six halves have residue 0;
CRC_ERROR when at least one has not. -/
def Obligations.DmeasVerifiesAndReassemblesABlock : Prop :=
  (∀ (m : MeasBlock) (s : State),
    (∀ g ∈ [m.co2, m.temp, m.rh], crc8 g.first.bytes = 0x00#8 ∧ crc8 g.second.bytes = 0x00#8) →
    exec (.dmeas m) s = .next { s with responses := s.responses ++
      [.ok (.meas (m.co2.first.hi ++ m.co2.first.lo ++ m.co2.second.hi ++ m.co2.second.lo)
        (m.temp.first.hi ++ m.temp.first.lo ++ m.temp.second.hi ++ m.temp.second.lo)
        (m.rh.first.hi ++ m.rh.first.lo ++ m.rh.second.hi ++ m.rh.second.lo))] }) ∧
  (∀ (m : MeasBlock) (s : State),
    (∃ g ∈ [m.co2, m.temp, m.rh], crc8 g.first.bytes ≠ 0x00#8 ∨ crc8 g.second.bytes ≠ 0x00#8) →
    exec (.dmeas m) s = .next { s with responses := s.responses ++ [.error .crcError] })

/-- All or nothing (R80): one bad half of one group, and none of the three values is delivered; the response has no result. -/
def Obligations.DmeasDeliversAllOrNothing : Prop :=
  ∀ (m : MeasBlock) (s : State) (h : Half),
    h ∈ [m.co2.first, m.co2.second, m.temp.first, m.temp.second, m.rh.first, m.rh.second] →
    crc8 [h.hi, h.lo] ≠ h.crc →
    ∃ r : Response, exec (.dmeas m) s = .next { s with responses := s.responses ++ [r] } ∧
      r.status = 3#3 ∧ r.result? = none

/-- DMEAS is three DFLTs (R81): it answers OK exactly when the three do, and then with their patterns, in order. -/
def Obligations.DmeasIsThreeDflts : Prop :=
  ∀ (m : MeasBlock) (s : State) (a b c : Pattern),
    exec (.dmeas m) s = .next { s with responses := s.responses ++ [.ok (.meas a b c)] } ↔
      exec (.dflt m.co2) s = .next { s with responses := s.responses ++ [.ok (.fbits a)] } ∧
      exec (.dflt m.temp) s = .next { s with responses := s.responses ++ [.ok (.fbits b)] } ∧
      exec (.dflt m.rh) s = .next { s with responses := s.responses ++ [.ok (.fbits c)] }

/-- Any three patterns, sealed with the block's own checksum, come back from DMEAS bit for bit (R77, R78, R106). -/
def Obligations.SealedMeasurementComesBack : Prop :=
  ∀ (a b c : Pattern) (s : State),
    exec (.dmeas ⟨sealGroup a, sealGroup b, sealGroup c⟩) s =
      .next { s with responses := s.responses ++ [.ok (.meas a b c)] }

/-! ## Errors -/

/-- The status codes (R85), and that result fields follow exactly when the status is OK (R13, R32). -/
def Obligations.StatusCodesAndResultFields : Prop :=
  (∀ v : Result, (Response.ok v).status = 0#3) ∧ (Response.error .transport).status = 1#3 ∧
  (Response.error .noData).status = 2#3 ∧ (Response.error .crcError).status = 3#3 ∧
  (Response.error .notImplemented).status = 4#3 ∧
  (∀ r : Response, r.status = 0#3 ↔ ∃ v, r.result? = some v)

/-- The reserved selector (R41): every packet with `op = 7` is the reserved request, whatever else the packet holds (R90; the packet
is the model's, log entry 1, and that nothing else of it is looked at is deduced, log entry 9); the request is answered
NOT_IMPLEMENTED and nothing else happens; every other request within MAXLEN is legal, that is, is answered, and not with
NOT_IMPLEMENTED. -/
def Obligations.ReservedSelectorIsNotImplemented : Prop :=
  (∀ p : Packet, p.op = 7#3 → decode p = .ok .rsvd7) ∧
  (∀ s : State, exec .rsvd7 s = .next { s with responses := s.responses ++ [.error .notImplemented] }) ∧
  (∀ (i : Instr) (s : State), i.wellFormed s.config = true → i ≠ .rsvd7 →
    ∃ r : Response, exec i s = .next { s with responses := s.responses ++ [r] } ∧ r ≠ .error .notImplemented)

/-- The block never answers TRANSPORT or NO_DATA, nor any code but OK, CRC_ERROR and NOT_IMPLEMENTED (R85, R86). -/
def Obligations.NeverTransportOrNoData : Prop :=
  ∀ (i : Instr) (s t : State), exec i s = .next t →
    ∃ r : Response, t.responses = s.responses ++ [r] ∧ r ≠ .error .transport ∧ r ≠ .error .noData ∧
      (r.status = 0#3 ∨ r.status = 3#3 ∨ r.status = 4#3)

/-- All the causes of CRC_ERROR (R87). -/
def Obligations.CausesOfCrcError : Prop :=
  ∀ (i : Instr) (s : State),
    exec i s = .next { s with responses := s.responses ++ [.error .crcError] } ↔
      (∃ w : Half, i = .dword w ∧ crc8 w.bytes ≠ 0x00#8) ∨
      (∃ g : FloatGroup, i = .dflt g ∧ (crc8 g.first.bytes ≠ 0x00#8 ∨ crc8 g.second.bytes ≠ 0x00#8)) ∨
      (∃ m : MeasBlock, i = .dmeas m ∧
        ∃ h ∈ [m.co2.first, m.co2.second, m.temp.first, m.temp.second, m.rh.first, m.rh.second],
          crc8 h.bytes ≠ 0x00#8)

/-- NOT_IMPLEMENTED is raised for the reserved selector and for nothing else (R89). -/
def Obligations.CauseOfNotImplemented : Prop :=
  ∀ (p : Packet) (i : Instr) (s : State), decode p = .ok i →
    (exec i s = .next { s with responses := s.responses ++ [.error .notImplemented] } ↔ p.op = 7#3)

/-- No error sticks (R92): after any answered request, an error or not, any accepted request gets the response it would have got
before. -/
def Obligations.ErrorsDoNotStick : Prop :=
  ∀ (i j : Instr) (s t : State), exec i s = .next t → j.wellFormed s.config = true →
    ∃ r : Response, exec j s = .next { s with responses := s.responses ++ [r] } ∧
      exec j t = .next { t with responses := t.responses ++ [r] }

/-! ## The whole block -/

/-- Every accepted request is answered by exactly one response, and nothing else changes; a request that is not accepted has none
(R24, R9). -/
def Obligations.EveryAcceptedRequestHasOneResponse : Prop :=
  ∀ (i : Instr) (s : State),
    (i.wellFormed s.config = true → ∃ r : Response, exec i s = .next { s with responses := s.responses ++ [r] }) ∧
    (i.wellFormed s.config = false → ∃ n m : Nat, exec i s = .refused (.notAccepted n) ∧
      s.config.maxLen = some m ∧ m < n)

/-- Every response is a function of its request alone: one function answers, whatever the state (R29). -/
def Obligations.ResponseIsAFunctionOfTheRequest : Prop :=
  ∃ answer : Instr → Response, ∀ (i : Instr) (s : State), i.wellFormed s.config = true →
    exec i s = .next { s with responses := s.responses ++ [answer i] }

/-- A run over any list of accepted requests ends with its responses in the order of the requests, each a function of its request
alone, and nothing pending (R25, R29, R108). -/
def Obligations.RunAnswersRequestsInOrder : Prop :=
  ∃ answer : Instr → Response,
    (∀ (i : Instr) (s : State), i.wellFormed s.config = true →
      exec i s = .next { s with responses := s.responses ++ [answer i] }) ∧
    ∀ (requests : List Instr) (s : State), (∀ i ∈ requests, i.wellFormed s.config = true) →
      s.pending = requests.map (fun i => .request (encode i)) →
      Host.Core.run Sys2Proof.core requests.length s =
        .next { s with pending := [], responses := s.responses ++ requests.map answer }

/-- A step stops only on a packet that carries no request or on a request over MAXLEN; anything else has a next state (R12, R24,
R9). -/
def Obligations.StepStopsOnlyOnWhatIsNoRequest : Prop :=
  ∀ s : State, (∃ t, step s = .next t) ∨
    ∃ (p : Packet) (rest : List HostInput), s.pending = .request p :: rest ∧
      ((∃ e, decode p = .error e ∧ step s = .refused (.noSuchRequest e)) ∨
        (∃ i n, decode p = .ok i ∧ i.wellFormed s.config = false ∧ step s = .refused (.notAccepted n)))

/-- A step keeps MAXLEN, alters no response already given, and exchanges requests for responses one for one (R24, R25, R91). -/
def Obligations.StepExchangesRequestsForResponses : Prop :=
  ∀ s t : State, step s = .next t →
    t.config = s.config ∧ s.responses <+: t.responses ∧
      t.responses.length + t.requestsLeft = s.responses.length + s.requestsLeft

/-- Every step keeps the invariant: only responses the block may give are given, and frames have legal lengths (R13, R42, R85,
R86). -/
def Obligations.StepKeepsResponsesProducible : Prop :=
  ∀ s t : State, s.Inv → step s = .next t → t.Inv

/-- The invariant holds at reset (R20). -/
def Obligations.ResponsesProducibleAtReset : Prop := State.reset.Inv

/-- `VERIFY (SEAL s)` is true for every `s`, each pseudo-operation run as its expansion (R44, R51), where the instance accepts the
sealed sequence. -/
def Obligations.VerifyOfASealedSequenceIsTrue : Prop :=
  ∀ (data : List Byte) (s : State), s.config.accepts (data.length + 1) = true →
    ∃ (r1 r2 : Response) (t : List Byte),
      exec (sealRequest data) s = .next { s with responses := s.responses ++ [r1] } ∧
      sealOutcome data r1 = some t ∧
      exec (verifyRequest t) s = .next { s with responses := s.responses ++ [r2] } ∧
      verifyOutcome r2 = some true
end

