-- ==== Sys2Proof/Laws/Config.lean ====
section
/-! SUPPORT. The byte counts of spec/00_scope.md R8 are the lengths the types carry. -/

namespace Sys2Proof

theorem half_bytes_length (h : Half) : h.bytes.length = Config.wordBytes := rfl
theorem group_bytes_length (g : FloatGroup) : g.bytes.length = Config.groupBytes := rfl
theorem block_bytes_length (m : MeasBlock) : m.bytes.length = Config.blockBytes := rfl
theorem block_is_groups : Config.blockBytes = Config.groupsPerBlock * Config.groupBytes := rfl
theorem group_is_halves : Config.groupBytes = 2 * Config.wordBytes := rfl

end Sys2Proof
end

