-- ==== Sys2Proof/Laws/Crc.lean ====
section
/-! SUPPORT. The CRC functions unfolded once (spec/40_crc8.md R45 to R48) and the checks of halves, groups and blocks. -/

namespace Sys2Proof.Machine

@[simp] theorem crc8Acc_nil (acc : Byte) : crc8Acc acc [] = acc := rfl
@[simp] theorem crc8Acc_cons (acc b : Byte) (s : List Byte) :
    crc8Acc acc (b :: s) = crc8Acc (crc8Step acc b) s := rfl

theorem crc8_eq_acc (s : List Byte) : crc8 s = crc8Acc 0xFF#8 s := rfl

/-- A step depends on the accumulator and the byte only through their XOR (R46). -/
theorem crc8Step_eq_of_xor {acc b acc' b' : Byte} (h : acc ^^^ b = acc' ^^^ b') :
    crc8Step acc b = crc8Step acc' b' := by simp [crc8Step, h]

@[simp] theorem catalogueBits_zero (poly b reg : Byte) : catalogueBits poly b 0 reg = reg := rfl
@[simp] theorem catalogueBits_succ (poly b : Byte) (n : Nat) (reg : Byte) :
    catalogueBits poly b (n + 1) reg = catalogueBits poly b n (catalogueBit poly reg (b.getLsbD n)) := rfl
@[simp] theorem catalogueBytes_nil (poly : Byte) (refin : Bool) (reg : Byte) :
    catalogueBytes poly refin reg [] = reg := rfl
@[simp] theorem catalogueBytes_cons (poly : Byte) (refin : Bool) (reg b : Byte) (s : List Byte) :
    catalogueBytes poly refin reg (b :: s) =
      catalogueBytes poly refin (catalogueBits poly (if refin then reflectByte b else b) 8 reg) s := rfl

theorem residueZero_iff (t : List Byte) : residueZero t = true ↔ crc8 t = 0x00#8 := by
  simp [residueZero]

theorem halfValid_iff (h : Half) : halfValid h = true ↔ crc8 [h.hi, h.lo, h.crc] = 0x00#8 := by
  simp [halfValid, residueZero_iff, Half.bytes]

theorem groupValid_iff (g : FloatGroup) :
    groupValid g = true ↔ halfValid g.first = true ∧ halfValid g.second = true := by
  simp [groupValid]

theorem blockValid_iff (m : MeasBlock) :
    blockValid m = true ↔ groupValid m.co2 = true ∧ groupValid m.temp = true ∧ groupValid m.rh = true := by
  simp [blockValid, and_assoc]

end Sys2Proof.Machine
end

