-- ==== Sys2Proof/Laws/State.lean ====
section
/-! SUPPORT. The small lemmas of the state: one per field and update, each true by `rfl`. The block has no memory
(spec/10_state.md R15), so there is no canonical form of a memory to keep. -/

namespace Sys2Proof.Machine

@[simp] theorem respond_config (s : State) (r : Response) : (s.respond r).config = s.config := rfl
@[simp] theorem respond_pending (s : State) (r : Response) : (s.respond r).pending = s.pending := rfl
@[simp] theorem respond_responses (s : State) (r : Response) :
    (s.respond r).responses = s.responses ++ [r] := rfl

/-- The record update a statement writes out is `State.respond`. -/
theorem respond_eq (s : State) (r : Response) :
    s.respond r = { s with responses := s.responses ++ [r] } := rfl

@[simp] theorem issue_config (s : State) (p : Packet) : (s.issue p).config = s.config := rfl
@[simp] theorem issue_responses (s : State) (p : Packet) : (s.issue p).responses = s.responses := rfl
@[simp] theorem issue_pending (s : State) (p : Packet) :
    (s.issue p).pending = .request p :: s.pending := rfl

@[simp] theorem reset_config : State.reset.config = Config.default := rfl
@[simp] theorem reset_pending : State.reset.pending = [] := rfl
@[simp] theorem reset_responses : State.reset.responses = [] := rfl

/-- Two answers to one state are the same next state only if they are the same response. -/
theorem respond_inj {s : State} {r r' : Response} : s.respond r = s.respond r' ↔ r = r' := by
  simp [State.respond]

end Sys2Proof.Machine
end

