-- ==== Sys2Proof/Laws/Ops.lean ====
section
/-! SUPPORT. What each shared operation can do, said once. -/

namespace Sys2Proof.Machine

@[simp] theorem respondOk_eq (v : Result) (s : State) : respondOk v s = .next (s.respond (.ok v)) := rfl
@[simp] theorem raise_eq (k : ErrorKind) (s : State) : raise k s = .next (s.respond (.error k)) := rfl

/-- Within MAXLEN the request is served. -/
theorem whenAccepted_of_accepts {n : Nat} {s : State} (h : s.config.accepts n = true) (o : Outcome) :
    whenAccepted n s o = o := by simp [whenAccepted, h]

/-- Over MAXLEN the request is not accepted. -/
theorem whenAccepted_of_not_accepts {n : Nat} {s : State} (h : s.config.accepts n = false) (o : Outcome) :
    whenAccepted n s o = .refused (.notAccepted n) := by simp [whenAccepted, h]

/-- A request that got a next state was accepted, and its own service gave that state. -/
theorem whenAccepted_next {n : Nat} {s t : State} {o : Outcome} (h : whenAccepted n s o = .next t) :
    s.config.accepts n = true ∧ o = .next t := by
  unfold whenAccepted at h
  split at h
  · exact ⟨‹_›, h⟩
  · cases h

/-- Acceptance as an inequality. -/
theorem accepts_iff (c : Config) (n : Nat) : c.accepts n = true ↔ ∀ m, c.maxLen = some m → n ≤ m := by
  unfold Config.accepts
  split <;> simp_all

@[simp] theorem accepts_default (n : Nat) : Config.default.accepts n = true := rfl

@[simp] theorem nextInput_nil {s : State} (h : s.pending = []) : nextInput s = none := by
  simp [nextInput, h]

theorem nextInput_cons {s : State} {x : HostInput} {rest : List HostInput} (h : s.pending = x :: rest) :
    nextInput s = some (x, { s with pending := rest }) := by simp [nextInput, h]

@[simp] theorem status_ok (v : Result) : (Response.ok v).status = 0#3 := rfl
@[simp] theorem status_error (k : ErrorKind) : (Response.error k).status = k.code := rfl
@[simp] theorem result_ok (v : Result) : (Response.ok v).result? = some v := rfl
@[simp] theorem result_error (k : ErrorKind) : (Response.error k).result? = none := rfl

end Sys2Proof.Machine
end

