-- ==== Sys2Proof/Laws/Exec.lean ====
section
/-! SUPPORT. `exec` of each request is its meaning, and the meaning of each decoder by its two cases. -/

namespace Sys2Proof.Machine

@[simp] theorem exec_crc8 (data : List Byte) (s : State) : exec (.crc8 data) s = execCrc8 data s := rfl
@[simp] theorem exec_bcmd (code : Word) (s : State) : exec (.bcmd code) s = execBcmd code s := rfl
@[simp] theorem exec_barg (code arg : Word) (s : State) : exec (.barg code arg) s = execBarg code arg s := rfl
@[simp] theorem exec_bpay (code : Word) (data : List Byte) (wcrc : BitVec 1) (s : State) :
    exec (.bpay code data wcrc) s = execBpay code data wcrc s := rfl
@[simp] theorem exec_dword (w : Half) (s : State) : exec (.dword w) s = execDword w s := rfl
@[simp] theorem exec_dflt (g : FloatGroup) (s : State) : exec (.dflt g) s = execDflt g s := rfl
@[simp] theorem exec_dmeas (m : MeasBlock) (s : State) : exec (.dmeas m) s = execDmeas m s := rfl
@[simp] theorem exec_rsvd7 (s : State) : exec .rsvd7 s = execRsvd7 s := rfl

theorem execDword_of_valid {w : Half} (h : halfValid w = true) (s : State) :
    execDword w s = .next (s.respond (.ok (.word (joinWord w.hi w.lo)))) := by simp [execDword, h]

theorem execDword_of_not_valid {w : Half} (h : halfValid w = false) (s : State) :
    execDword w s = .next (s.respond (.error .crcError)) := by simp [execDword, h]

theorem execDflt_of_valid {g : FloatGroup} (h : groupValid g = true) (s : State) :
    execDflt g s = .next (s.respond (.ok (.fbits (groupPattern g)))) := by simp [execDflt, h]

theorem execDflt_of_not_valid {g : FloatGroup} (h : groupValid g = false) (s : State) :
    execDflt g s = .next (s.respond (.error .crcError)) := by simp [execDflt, h]

theorem execDmeas_of_valid {m : MeasBlock} (h : blockValid m = true) (s : State) :
    execDmeas m s = .next (s.respond
      (.ok (.meas (groupPattern m.co2) (groupPattern m.temp) (groupPattern m.rh)))) := by
  simp [execDmeas, h]

theorem execDmeas_of_not_valid {m : MeasBlock} (h : blockValid m = false) (s : State) :
    execDmeas m s = .next (s.respond (.error .crcError)) := by simp [execDmeas, h]

/-- Everything an answered request does: it adds one response. -/
theorem exec_next {i : Instr} {s t : State} (h : exec i s = .next t) : ∃ r, t = s.respond r := by
  have given : ∀ {r : Response}, (Host.Outcome.next (s.respond r) : Outcome) = .next t → ∃ r, t = s.respond r := by
    intro r e
    cases e
    exact ⟨r, rfl⟩
  cases i with
  | crc8 data => exact given (whenAccepted_next h).2
  | bcmd code => exact given h
  | barg code arg => exact given h
  | bpay code data wcrc => exact given (whenAccepted_next h).2
  | dword w =>
    rw [exec_dword, execDword] at h
    split at h <;> exact given h
  | dflt g =>
    rw [exec_dflt, execDflt] at h
    split at h <;> exact given h
  | dmeas m =>
    rw [exec_dmeas, execDmeas] at h
    split at h <;> exact given h
  | rsvd7 => exact given h

end Sys2Proof.Machine
end

