-- ==== Sys2Proof/Laws/Operands.lean ====
section
/-! SUPPORT. Splitting and joining of bytes (spec/30_encoding.md R39). -/

namespace Sys2Proof.Machine

/-- The shift-and-OR form joins the bytes side by side. -/
theorem joinWord_eq_append (hi lo : Byte) : joinWord hi lo = hi ++ lo := by
  apply BitVec.eq_of_getLsbD_eq
  intro i hi'
  rw [BitVec.getLsbD_append]
  by_cases h : i < 8
  · simp [joinWord, h, hi']
  · simp [joinWord, h, hi', BitVec.getLsbD_of_ge lo i (by omega)]

/-- Joining the two bytes of a value gives it back. -/
theorem joinWord_hiByte_loByte (v : Word) : joinWord (hiByte v) (loByte v) = v := by
  rw [joinWord_eq_append]
  apply BitVec.eq_of_getLsbD_eq
  intro i hi'
  rw [BitVec.getLsbD_append]
  by_cases h : i < 8
  · simp [h, loByte]
  · simp [h, hiByte, show 8 + (i - 8) = i by omega, show i - 8 < 8 by omega]

@[simp] theorem wordBytes_length (v : Word) : (wordBytes v).length = 2 := rfl

end Sys2Proof.Machine
end

