-- ==== Sys2Proof/Laws/PerInstr.lean ====
section
/-! SUPPORT. The family EncodingShape: for every request, the packet that carries it has its row's selector value
(spec/30_encoding.md R31) and the operand length of its row's format (spec/10_state.md R12). -/

namespace Sys2Proof.Laws

/-- The operand bytes each request has, from the widths of R12. -/
def EncodingShape.length : Instr → Nat
  | .crc8 data => data.length
  | .bcmd _ => 2
  | .barg _ _ => 4
  | .bpay _ data _ => 2 + data.length
  | .dword _ => 3
  | .dflt _ => 6
  | .dmeas _ => 18
  | .rsvd7 => 0

/-- The statement of the family. -/
def EncodingShape.Statement (i : Instr) : Prop :=
  selectorOf (encode i).op = i.row ∧ (encode i).operands.length = EncodingShape.length i

theorem EncodingShape.crc8 (data : List Byte) : EncodingShape.Statement (.crc8 data) := ⟨rfl, rfl⟩
theorem EncodingShape.bcmd (code : Word) : EncodingShape.Statement (.bcmd code) := ⟨rfl, rfl⟩
theorem EncodingShape.barg (code arg : Word) : EncodingShape.Statement (.barg code arg) := ⟨rfl, rfl⟩
theorem EncodingShape.bpay (code : Word) (data : List Byte) (wcrc : BitVec 1) :
    EncodingShape.Statement (.bpay code data wcrc) :=
  ⟨rfl, by simp [encode, Instr.operandBytes, Machine.wordBytes, EncodingShape.length]; omega⟩
theorem EncodingShape.dword (w : Half) : EncodingShape.Statement (.dword w) := ⟨rfl, rfl⟩
theorem EncodingShape.dflt (g : FloatGroup) : EncodingShape.Statement (.dflt g) := ⟨rfl, rfl⟩
theorem EncodingShape.dmeas (m : MeasBlock) : EncodingShape.Statement (.dmeas m) := ⟨rfl, rfl⟩
theorem EncodingShape.rsvd7 : EncodingShape.Statement .rsvd7 := ⟨rfl, rfl⟩

end Sys2Proof.Laws
end

