-- ==== Sys2Proof/Tests/Slice0.lean ====
section
/-! SUPPORT. Tests of the model against the vectors of spec/95_test_vectors.md, the smoke test of WellFormed, decode tests of
requests written out from spec/30_encoding.md R31, and a witness for every statement that has hypotheses. Each expected value is
the spec's, named by section or rule. -/

namespace Sys2Proof.Tests

open Machine

/-- What an idle block with no bound answers to a request. -/
def answerOf (i : Instr) : Option Response :=
  match exec i State.reset with
  | .next t => t.responses.getLast?
  | .fault _ => none
  | .refused _ => none

/-- The refusal of a step, if it has one. -/
def refusalOf (o : Outcome) : Option Refusal :=
  match o with
  | .next _ => none
  | .fault _ => none
  | .refused r => some r

/-- The next state of a step, if it has one. -/
def nextOf (o : Outcome) : Option State :=
  match o with
  | .next t => some t
  | .fault _ => none
  | .refused _ => none

/-- A state of an instance that accepts at most `m` bytes. -/
def bounded (m : Nat) : State := { State.reset with config := { maxLen := some m } }

/-- The half `[BE, EF, 92]` of section 2.3. -/
def goodWord : Half := ⟨0xBE, 0xEF, 0x92⟩

/-- The half `[BE, EF, 93]` of section 2.3, its checksum byte corrupted. -/
def badWord : Half := ⟨0xBE, 0xEF, 0x93⟩

/-- The CO2 group of section 1.9. -/
def co2Group : FloatGroup := ⟨⟨0x43, 0xCE, 0x7D⟩, ⟨0x40, 0x00, 0x08⟩⟩

/-- The temperature group of section 1.9. -/
def tempGroup : FloatGroup := ⟨⟨0x41, 0xBD, 0x0F⟩, ⟨0x99, 0x9A, 0xED⟩⟩

/-- The humidity group of section 1.9. -/
def rhGroup : FloatGroup := ⟨⟨0x42, 0x24, 0x93⟩, ⟨0x00, 0x00, 0x81⟩⟩

/-- The humidity group with its last byte changed (section 2.5). -/
def badRhGroup : FloatGroup := ⟨⟨0x42, 0x24, 0x93⟩, ⟨0x00, 0x00, 0x80⟩⟩

/-! ## Well-formedness -/

theorem test_wellFormed_refuses_crc8_over_maxlen :
    (Instr.crc8 [1, 2]).wellFormed { maxLen := some 1 } = false := by decide
theorem test_wellFormed_refuses_bpay_over_maxlen :
    (Instr.bpay 0 [1, 2] 0).wellFormed { maxLen := some 1 } = false := by decide
theorem test_wellFormed_takes_the_bound_itself :
    (Instr.crc8 [1, 2]).wellFormed { maxLen := some 2 } = true := by decide

/-! ## Decoding (R31; operand values of section 3's programs) -/

theorem test_decode_crc8 : decode ⟨0b000#3, 0#1, [0b00010111#8, 0b00010000#8]⟩ = .ok (.crc8 [0x17, 0x10]) := by
  decide +kernel
theorem test_decode_bcmd : decode ⟨0b001#3, 0#1, [0b00000010#8, 0b00000011#8]⟩ = .ok (.bcmd 0x0203#16) := by
  decide +kernel
theorem test_decode_barg :
    decode ⟨0b010#3, 0#1, [0b00010000#8, 0b00001010#8, 0b00010010#8, 0b00110100#8]⟩ =
      .ok (.barg 0x100A#16 0x1234#16) := by decide +kernel
theorem test_decode_bpay :
    decode ⟨0b011#3, 1#1, [0b00010000#8, 0b00001010#8, 0b10101011#8]⟩ = .ok (.bpay 0x100A#16 [0xAB] 1#1) := by
  decide +kernel
theorem test_decode_dword :
    decode ⟨0b100#3, 0#1, [0b10111110#8, 0b11101111#8, 0b10010010#8]⟩ = .ok (.dword goodWord) := by decide +kernel
theorem test_decode_dflt :
    decode ⟨0b101#3, 0#1, [0x43, 0xCE, 0x7D, 0x40, 0x00, 0x08]⟩ = .ok (.dflt co2Group) := by decide +kernel
theorem test_decode_dmeas :
    decode ⟨0b110#3, 0#1, [0x43, 0xCE, 0x7D, 0x40, 0x00, 0x08, 0x41, 0xBD, 0x0F, 0x99, 0x9A, 0xED,
      0x42, 0x24, 0x93, 0x00, 0x00, 0x81]⟩ = .ok (.dmeas ⟨co2Group, tempGroup, rhGroup⟩) := by decide +kernel
theorem test_decode_rsvd7 : decode ⟨0b111#3, 0#1, []⟩ = .ok .rsvd7 := by decide +kernel
/-- R12: DWORD takes exactly three bytes. -/
theorem test_decode_refuses_short_dword :
    decode ⟨0b100#3, 0#1, [0xBE, 0xEF]⟩ = .error (.operandLength .dword 2) := by decide +kernel
/-- R31: the eight selector values, as the opcode table numbers them. -/
theorem test_decodeTableWord_rows :
    (List.range 8).map (fun w => (decodeTableWord 8 w).map Instr.row) =
      [some .crc8, some .bcmd, some .barg, some .bpay, some .dword, some .dflt, some .dmeas, some .rsvd7] := by
  decide +kernel
/-- Section 2.3: DWORD of three zero bytes is a CRC_ERROR, which is its answer and no stop. -/
theorem test_withFetchWord_runs_dword :
    (nextOf (step (State.reset.withFetchWord 8 4))).map State.responses = some [.error .crcError] := by decide +kernel
theorem test_withFetchWord_runs_barg :
    (nextOf (step (State.reset.withFetchWord 8 2))).map State.responses =
      some [.ok (.frame [0x00, 0x00, 0x00, 0x00, 0x81])] := by decide +kernel

/-! ## Operations -/

/-- Section 1.1. -/
theorem test_crc8_reference : answerOf (.crc8 [1, 2, 3, 4, 5, 6, 7, 8]) = some (.ok (.crc 0xD0)) := by decide +kernel
/-- D4: over MAXLEN the request is not accepted. -/
theorem test_crc8_not_accepted : refusalOf (exec (.crc8 [1, 2]) (bounded 1)) = some (.notAccepted 2) := by
  decide +kernel
/-- Section 1.7e. -/
theorem test_bcmd : answerOf (.bcmd 0x100A) = some (.ok (.frame [0x10, 0x0A])) := by decide +kernel
/-- Section 1.7a. -/
theorem test_barg : answerOf (.barg 0x100A 0x1234) = some (.ok (.frame [0x10, 0x0A, 0x12, 0x34, 0x37])) := by
  decide +kernel
/-- Section 2.2: the high bit of the argument set. -/
theorem test_barg_high_bit :
    answerOf (.barg 0x5403 0xFF06) = some (.ok (.frame [0x54, 0x03, 0xFF, 0x06, 0xA6])) := by decide +kernel
/-- Section 2.2: two words, one CRC over all four bytes. -/
theorem test_bpay_one_crc :
    answerOf (.bpay 0x100A [0x00, 0x01, 0x00, 0x02] 1) =
      some (.ok (.frame [0x10, 0x0A, 0x00, 0x01, 0x00, 0x02, 0xF3])) := by decide +kernel
/-- Section 2.2: an empty payload gets no CRC byte. -/
theorem test_bpay_empty : answerOf (.bpay 0x100A [] 1) = some (.ok (.frame [0x10, 0x0A])) := by decide +kernel
/-- Section 2.3. -/
theorem test_dword : answerOf (.dword goodWord) = some (.ok (.word 0xBEEF)) := by decide +kernel
/-- Section 2.3: data bytes swapped. -/
theorem test_dword_swapped : answerOf (.dword ⟨0xEF, 0xBE, 0x92⟩) = some (.error .crcError) := by decide +kernel
/-- Section 2.4: a signalling NaN comes back bit for bit. -/
theorem test_dflt_nan :
    answerOf (.dflt ⟨⟨0x7F, 0x80, 0x59⟩, ⟨0x00, 0x01, 0xB0⟩⟩) = some (.ok (.fbits 0x7F800001)) := by decide +kernel
/-- Section 2.4: a single pass over all six bytes gives 0, but the halves do not. -/
theorem test_dflt_per_half :
    crc8 [0x43, 0xCE, 0x7C, 0x40, 0x00, 0xCF] = 0 ∧
      answerOf (.dflt ⟨⟨0x43, 0xCE, 0x7C⟩, ⟨0x40, 0x00, 0xCF⟩⟩) = some (.error .crcError) := by decide +kernel
/-- Section 1.9. -/
theorem test_dmeas :
    answerOf (.dmeas ⟨co2Group, tempGroup, rhGroup⟩) =
      some (.ok (.meas 0x43CE4000 0x41BD999A 0x42240000)) := by decide +kernel
/-- Section 2.5: the last byte changed, and nothing is delivered. -/
theorem test_dmeas_last_byte : answerOf (.dmeas ⟨co2Group, tempGroup, badRhGroup⟩) = some (.error .crcError) := by
  decide +kernel
/-- Section 2.6. -/
theorem test_rsvd7 : answerOf .rsvd7 = some (.error .notImplemented) := by decide +kernel
/-- Section 2.1: the ASCII string "123456789". -/
theorem test_crc8_check_value :
    crc8 [0x31, 0x32, 0x33, 0x34, 0x35, 0x36, 0x37, 0x38, 0x39] = 0xF7 := by decide +kernel
/-- Section 2.1: spot values of the shift iteration. -/
theorem test_crc8Bit_spots :
    crc8Bit 0x00 = 0x00 ∧ crc8Bit 0x80 = 0x31 ∧ crc8Bit 0x40 = 0x80 ∧ crc8Bit 0xFF = 0xCF ∧ crc8Bit 0x41 = 0x82 ∧
      crc8Bit 0x82 = 0x35 := by decide +kernel
/-- The general CRC reflects and takes another INIT when told to. The value is the catalogue's check value of CRC-8/MAXIM for
"123456789", from general knowledge; it tests the comparison function alone and is no property of the block. -/
theorem test_catalogueCrc_reflects :
    catalogueCrc 0x31 0x00 true true 0x00 [0x31, 0x32, 0x33, 0x34, 0x35, 0x36, 0x37, 0x38, 0x39] = 0xA1 := by
  decide +kernel
/-- R50 at the word of R49's worked example. -/
theorem test_polyMod_worked_example : polyMod 16 ((0xBEEF ^^^ 0xFF00) <<< 8) = 0x92 := by decide +kernel

/-! ## Witnesses: every hypothesis of a statement can be met -/

theorem witness_PacketOfADecodedRequest :
    decode ⟨3#3, 1#1, [0x10, 0x0A, 0xAB]⟩ = .ok (.bpay 0x100A [0xAB] 1) ∧
      (⟨3#3, 1#1, [0x10, 0x0A, 0xAB]⟩ : Packet).op ≠ 7#3 := by decide +kernel
theorem witness_StepRunsTheDecodedRequest :
    (State.reset.issue ⟨1#3, 0#1, [0x46, 0x00]⟩).pending = .request ⟨1#3, 0#1, [0x46, 0x00]⟩ :: [] ∧
      decode ⟨1#3, 0#1, [0x46, 0x00]⟩ = .ok (.bcmd 0x4600) := by decide +kernel
theorem witness_StepRefusesAPacketThatCarriesNoRequest :
    (State.reset.issue ⟨1#3, 0#1, [0x46]⟩).pending = .request ⟨1#3, 0#1, [0x46]⟩ :: [] ∧
      decode ⟨1#3, 0#1, [0x46]⟩ = .error (.operandLength .bcmd 1) := by decide +kernel
theorem witness_ResetBetweenRequestsIsANoOp :
    ({ State.reset with pending := [.reset] } : State).pending = .reset :: [] := by decide
theorem witness_IdleBlockStaysIdle : State.reset.pending = [] := by decide
theorem witness_ChecksumIsThePolynomialRemainder : ([0xBE, 0xEF] : List Byte) ≠ [] := by decide
theorem witness_ChecksumOfTheEmptyInput : (bounded 0).config.accepts 0 = true := by decide
theorem witness_SingleByteCorruptionIsDetected :
    (2 < (([0xBE, 0xEF] : List Byte) ++ [crc8 [0xBE, 0xEF]]).length ∧
      (([0xBE, 0xEF] : List Byte) ++ [crc8 [0xBE, 0xEF]])[2]? ≠ some 0x93) ∧
    (0 < (([] : List Byte) ++ [crc8 []]).length ∧ (([] : List Byte) ++ [crc8 []])[0]? ≠ some 0x00) := by
  decide +kernel
theorem witness_ChecksumPassIsLinear : ([1, 2] : List Byte).length = ([3, 4] : List Byte).length := by decide
theorem witness_Crc8AnswersTheChecksum :
    (bounded 2).config.accepts ([1, 2] : List Byte).length = true ∧
      (bounded 2).config.accepts ([1, 2, 3] : List Byte).length = false := by decide
theorem witness_BpayBuildsThePayloadFrame :
    (bounded 0).config.accepts ([] : List Byte).length = true ∧
      (bounded 0).config.accepts ([0xAB] : List Byte).length = false := by decide
theorem witness_ChecksumNeverCoversTheCode : (bounded 1).config.accepts ([0xAB] : List Byte).length = true := by
  decide
theorem witness_FramesHaveTheirLengths :
    (bounded 1).config.accepts ([0xAB] : List Byte).length = true ∧ 0 < ([0xAB] : List Byte).length ∧
      (bounded 1).config.accepts ([] : List Byte).length = true ∧ ([] : List Byte).length = 0 := by decide
theorem witness_BargIsBpayOfItsArgument : (bounded 2).config.accepts 2 = true := by decide
theorem witness_DwordVerifiesAndDecodesAWord :
    crc8 [goodWord.hi, goodWord.lo, goodWord.crc] = 0x00#8 ∧
      crc8 [badWord.hi, badWord.lo, badWord.crc] ≠ 0x00#8 := by decide +kernel
theorem witness_WordIsNeverDeliveredUnchecked :
    (nextOf (exec (.dword goodWord) State.reset)).map State.responses =
      some (State.reset.responses ++ [.ok (.word 0xBEEF)]) := by decide +kernel
theorem witness_DfltVerifiesAndReassemblesAGroup :
    (crc8 co2Group.first.bytes = 0x00#8 ∧ crc8 co2Group.second.bytes = 0x00#8) ∧
      (crc8 badRhGroup.first.bytes ≠ 0x00#8 ∨ crc8 badRhGroup.second.bytes ≠ 0x00#8) := by decide +kernel
theorem witness_OneCorruptedByteOfAGroupIsCaught :
    crc8 rhGroup.first.bytes = 0x00#8 ∧ crc8 rhGroup.second.bytes = 0x00#8 ∧ 5 < 6 ∧
      rhGroup.bytes[5]? ≠ some 0x80 ∧ badRhGroup.bytes = rhGroup.bytes.set 5 0x80 := by decide +kernel
theorem witness_DmeasVerifiesAndReassemblesABlock :
    (∀ g ∈ [co2Group, tempGroup, rhGroup], crc8 g.first.bytes = 0x00#8 ∧ crc8 g.second.bytes = 0x00#8) ∧
      (∃ g ∈ [co2Group, tempGroup, badRhGroup], crc8 g.first.bytes ≠ 0x00#8 ∨ crc8 g.second.bytes ≠ 0x00#8) := by
  decide +kernel
theorem witness_DmeasDeliversAllOrNothing :
    badRhGroup.second ∈ [co2Group.first, co2Group.second, tempGroup.first, tempGroup.second, badRhGroup.first,
      badRhGroup.second] ∧ crc8 [badRhGroup.second.hi, badRhGroup.second.lo] ≠ badRhGroup.second.crc := by
  decide +kernel
theorem witness_ReservedSelectorIsNotImplemented :
    (⟨7#3, 1#1, [0x01]⟩ : Packet).op = 7#3 ∧ (Instr.crc8 []).wellFormed State.reset.config = true ∧
      Instr.crc8 [] ≠ .rsvd7 := by decide
theorem witness_NeverTransportOrNoData :
    (nextOf (exec .rsvd7 State.reset)).isSome = true := by decide
theorem witness_CauseOfNotImplemented : decode ⟨7#3, 0#1, []⟩ = .ok .rsvd7 := by decide
theorem witness_ErrorsDoNotStick :
    (nextOf (exec (.dword badWord) State.reset)).map State.responses = some [.error .crcError] ∧
      (Instr.dword goodWord).wellFormed State.reset.config = true := by decide +kernel
theorem witness_EveryAcceptedRequestHasOneResponse :
    (Instr.bpay 0 [1, 2] 0).wellFormed (bounded 2).config = true ∧
      (Instr.bpay 0 [1, 2] 0).wellFormed (bounded 1).config = false := by decide
theorem witness_ResponseIsAFunctionOfTheRequest : (Instr.dmeas ⟨co2Group, tempGroup, rhGroup⟩).wellFormed
    (bounded 0).config = true := by decide
theorem witness_RunAnswersRequestsInOrder :
    (∀ i ∈ [Instr.rsvd7, .dword goodWord], i.wellFormed State.reset.config = true) ∧
      ({ State.reset with pending := [.request ⟨7#3, 0#1, []⟩, .request ⟨4#3, 0#1, [0xBE, 0xEF, 0x92]⟩] } :
        State).pending = [Instr.rsvd7, .dword goodWord].map (fun i => .request (encode i)) := by decide +kernel
theorem witness_StepExchangesRequestsForResponses :
    (nextOf (step (State.reset.withFetchWord 8 7))).isSome = true := by decide +kernel
theorem witness_StepKeepsResponsesProducible :
    (State.reset.withFetchWord 8 1).Inv ∧ (nextOf (step (State.reset.withFetchWord 8 1))).isSome = true :=
  ⟨fun _ h => absurd h List.not_mem_nil, by decide +kernel⟩
theorem witness_VerifyOfASealedSequenceIsTrue :
    (bounded 3).config.accepts (([0xBE, 0xEF] : List Byte).length + 1) = true := by decide

end Sys2Proof.Tests
end

namespace Sys2Proof.Machine

/-! ## The CRC of the block and the general bit-serial CRC (R8, R22, R45 to R48)

The block XORs a byte into the accumulator whole and then shifts it out; the general CRC lets each message bit meet the
register's top bit on its own. The two agree because the message bits that have not been used yet can be kept XORed into the
register: one shift moves the next of them to the top. -/

/-- A shift iteration is a register step that takes the message bit 0. -/
theorem crc8Bit_eq_catalogueBit (a : Byte) : crc8Bit a = catalogueBit Config.poly a false := by
  simp [crc8Bit, catalogueBit, BitVec.msb_eq_getLsbD_last]

/-- Bits XORed into the register: the top one acts as a message bit, the others are shifted along. -/
theorem catalogueBit_xor (poly reg x : Byte) (bit : Bool) :
    catalogueBit poly (reg ^^^ x) bit = catalogueBit poly reg (x.msb ^^ bit) ^^^ (x <<< 1) := by
  unfold catalogueBit
  rw [BitVec.msb_xor, Bool.xor_assoc, BitVec.shiftLeft_xor_distrib]
  split
  · ac_rfl
  · rfl

/-- The top bit of a byte shifted up by `k` is the bit that stood `k` places below the top. -/
theorem msb_shiftLeft_of_add_eq (b : Byte) {k n : Nat} (h : k + n = 7) : (b <<< k).msb = b.getLsbD n := by
  have hk : ¬ 7 < k := by omega
  have hn : 8 - 1 - k = n := by omega
  rw [BitVec.msb_eq_getLsbD_last, BitVec.getLsbD_shiftLeft, hn]
  simp [hk]

/-- The last `n` bits of a byte taken one at a time, against the same `n` bits XORed in at the top first. -/
theorem catalogueBits_eq_crc8Bits (b : Byte) {k n : Nat} (h : k + n = 8) (reg : Byte) :
    catalogueBits Config.poly b n reg = crc8Bits n (reg ^^^ (b <<< k)) := by
  induction n generalizing k reg with
  | zero =>
    obtain rfl : k = 8 := h
    simp [crc8Bits]
  | succ n ih =>
    have hbit : crc8Bit (reg ^^^ (b <<< k)) =
        catalogueBit Config.poly reg (b.getLsbD n) ^^^ (b <<< (k + 1)) := by
      rw [crc8Bit_eq_catalogueBit, catalogueBit_xor, msb_shiftLeft_of_add_eq b (by omega : k + n = 7),
        Bool.xor_false, BitVec.shiftLeft_add]
    rw [catalogueBits_succ, ih (by omega : k + 1 + n = 8), crc8Bits, hbit]

/-- A byte step (R46) takes the eight message bits, most significant first. -/
theorem catalogueBits_eq_crc8Step (acc b : Byte) : catalogueBits Config.poly b 8 acc = crc8Step acc b := by
  rw [catalogueBits_eq_crc8Bits b (k := 0) rfl, BitVec.shiftLeft_zero]
  rfl

/-- A pass (R47) is the general CRC's pass over bytes that are not reflected. -/
theorem catalogueBytes_eq_crc8Acc (acc : Byte) (s : List Byte) :
    catalogueBytes Config.poly false acc s = crc8Acc acc s := by
  induction s generalizing acc with
  | nil => rfl
  | cons b s ih =>
    rw [catalogueBytes_cons, if_neg Bool.false_ne_true, catalogueBits_eq_crc8Step, ih, crc8Acc_cons]

/-- Settles O13: the register of the general CRC and the accumulator of the block agree after every byte, and at the block's
parameters nothing is done to the register at the end. -/
theorem checksumHasNoReflectionAndNoFinalXor : Obligations.ChecksumHasNoReflectionAndNoFinalXor := by
  refine ⟨rfl, rfl, rfl, rfl, rfl, fun s => ?_⟩
  simp [catalogueCrc, Config.refin, Config.refout, Config.xorout, catalogueBytes_eq_crc8Acc, crc8]

/-! ## Steps and reset (R7, R20, R25) -/

/-- A step on a request is the service of what its packet decodes to. -/
theorem step_of_decode_ok {s : State} {p : Packet} {rest : List HostInput} {i : Instr}
    (hs : s.pending = .request p :: rest) (hp : decode p = .ok i) : step s = exec i { s with pending := rest } := by
  simp [step, nextInput_cons hs, hp]

/-- Settles O6: the step takes the request off the list, decodes it and runs it. -/
theorem stepRunsTheDecodedRequest : Obligations.StepRunsTheDecodedRequest :=
  fun _ _ _ _ hs hp => step_of_decode_ok hs hp

/-- Settles O10: the three fields of the reset state. -/
theorem resetStateIsIdle : Obligations.ResetStateIsIdle :=
  ⟨reset_pending, reset_responses, rfl⟩

end Sys2Proof.Machine

namespace Sys2Proof

open Machine

/-! ## The carrier of a request (R12, R31, R41)

A packet decodes to a request exactly when it has the request's row, its operand bytes (outside format R) and its `wcrc`
value (in format P). The statements about the carrier are read off that equivalence. -/

/-- Splitting a joined value gives the two bytes back (R39). -/
theorem wordBytes_joinWord (hi lo : Byte) : wordBytes (joinWord hi lo) = [hi, lo] := by
  have hhi : hiByte (hi ++ lo) = hi := BitVec.extractLsb'_append_eq_left
  have hlo : loByte (hi ++ lo) = lo := BitVec.extractLsb'_append_eq_right
  rw [joinWord_eq_append, wordBytes, hhi, hlo]

@[simp] theorem selectorOf_bits (row : Selector) : selectorOf row.bits = row := by
  cases row <;> rfl

@[simp] theorem bits_selectorOf : ∀ op : BitVec 3, (selectorOf op).bits = op := by decide

theorem selectorOf_eq_iff {op : BitVec 3} {row : Selector} : selectorOf op = row ↔ op = row.bits :=
  ⟨fun h => by rw [← h, bits_selectorOf], fun h => by rw [h, selectorOf_bits]⟩

theorem halfOfBytes_eq_some_iff {bs : List Byte} {h : Half} : halfOfBytes bs = some h ↔ h.bytes = bs := by
  constructor
  · intro e
    unfold halfOfBytes at e
    split at e
    · cases e
      rfl
    · cases e
  · rintro rfl
    rfl

theorem groupOfBytes_eq_some_iff {bs : List Byte} {g : FloatGroup} :
    groupOfBytes bs = some g ↔ g.bytes = bs := by
  constructor
  · intro e
    unfold groupOfBytes at e
    split at e
    · next a b ha hb =>
      cases e
      rw [FloatGroup.bytes, halfOfBytes_eq_some_iff.1 ha, halfOfBytes_eq_some_iff.1 hb, List.take_append_drop]
    · cases e
  · rintro rfl
    rfl

/-- The three slices of R38 put together again. -/
theorem take_append_take_drop_append_drop {α : Type} (n : Nat) (l : List α) :
    l.take n ++ (l.drop n).take n ++ l.drop (2 * n) = l := by
  rw [List.append_assoc, two_mul, ← List.drop_drop, List.take_append_drop, List.take_append_drop]

theorem blockOfBytes_eq_some_iff {bs : List Byte} {m : MeasBlock} :
    blockOfBytes bs = some m ↔ m.bytes = bs := by
  constructor
  · intro e
    unfold blockOfBytes at e
    split at e
    · next a b c ha hb hc =>
      cases e
      rw [MeasBlock.bytes, groupOfBytes_eq_some_iff.1 ha, groupOfBytes_eq_some_iff.1 hb,
        groupOfBytes_eq_some_iff.1 hc, take_append_take_drop_append_drop]
    · cases e
  · rintro rfl
    rfl

/-- The operand fields of a request read back as the request. Only format P looks at `wcrc`, and format R looks at nothing. -/
theorem decodeFields_operandBytes (i : Instr) : decodeFields i.row i.wcrcLine i.operandBytes = some i := by
  cases i with
  | crc8 data => rfl
  | bcmd code => simp [decodeFields, Instr.row, Instr.operandBytes, wordBytes, joinWord_hiByte_loByte]
  | barg code arg => simp [decodeFields, Instr.row, Instr.operandBytes, wordBytes, joinWord_hiByte_loByte]
  | bpay code data wcrc =>
    simp [decodeFields, Instr.row, Instr.operandBytes, Instr.wcrcLine, wordBytes, joinWord_hiByte_loByte]
  | dword w => rfl
  | dflt g => rfl
  | dmeas m => rfl
  | rsvd7 => rfl

/-- What the operand fields say about the request they were read as. -/
theorem decodeFields_eq_some {row : Selector} {wcrc : BitVec 1} {bs : List Byte} {i : Instr}
    (h : decodeFields row wcrc bs = some i) :
    i.row = row ∧ (row ≠ .rsvd7 → i.operandBytes = bs) ∧ (row = .bpay → i.wcrcLine = wcrc) := by
  cases row with
  | crc8 =>
    cases h
    simp [Instr.row, Instr.operandBytes]
  | bcmd =>
    unfold decodeFields at h
    dsimp only at h
    split at h <;> cases h
    simp [Instr.row, Instr.operandBytes, wordBytes_joinWord]
  | barg =>
    unfold decodeFields at h
    dsimp only at h
    split at h <;> cases h
    simp [Instr.row, Instr.operandBytes, wordBytes_joinWord]
  | bpay =>
    unfold decodeFields at h
    dsimp only at h
    split at h <;> cases h
    simp [Instr.row, Instr.operandBytes, Instr.wcrcLine, wordBytes_joinWord]
  | dword =>
    obtain ⟨w, hw, rfl⟩ := Option.map_eq_some_iff.1 h
    simp [Instr.row, Instr.operandBytes, halfOfBytes_eq_some_iff.1 hw]
  | dflt =>
    obtain ⟨g, hg, rfl⟩ := Option.map_eq_some_iff.1 h
    simp [Instr.row, Instr.operandBytes, groupOfBytes_eq_some_iff.1 hg]
  | dmeas =>
    obtain ⟨m, hm, rfl⟩ := Option.map_eq_some_iff.1 h
    simp [Instr.row, Instr.operandBytes, blockOfBytes_eq_some_iff.1 hm]
  | rsvd7 =>
    cases h
    simp [Instr.row]

/-- A packet carries the request its operand fields are read as, in the format its selector names. -/
theorem decode_eq_ok_iff {p : Packet} {i : Instr} :
    decode p = .ok i ↔ decodeFields (selectorOf p.op) p.wcrc p.operands = some i := by
  unfold decode
  split <;> simp_all

/-- Settles O1: the selector of `encode i` names the row of `i`, and the operand fields of that row read back as `i`. -/
theorem requestReadsBackFromItsPacket : Obligations.RequestReadsBackFromItsPacket := by
  intro i
  rw [decode_eq_ok_iff, encode, selectorOf_bits]
  exact decodeFields_operandBytes i

/-- Settles O2: what the operand fields say about the request, with the selector's value for its row. -/
theorem packetOfADecodedRequest : Obligations.PacketOfADecodedRequest := by
  intro p i h
  obtain ⟨hrow, hbytes, hwcrc⟩ := decodeFields_eq_some (decode_eq_ok_iff.1 h)
  refine ⟨?_, fun hop => hbytes ?_, fun hop => hwcrc ?_⟩
  · rw [encode, hrow, bits_selectorOf]
  · rwa [Ne, selectorOf_eq_iff]
  · rwa [selectorOf_eq_iff]

/-! ### The operand lengths of the formats (R12) -/

/-- `n` operand bytes are the length of the row's format: any for formats N and R, at least the code for format P, and
otherwise a fixed number. -/
def Selector.lengthFits : Selector → Nat → Prop
  | .crc8, _ => True
  | .bcmd, n => n = 2
  | .barg, n => n = 4
  | .bpay, n => 2 ≤ n
  | .dword, n => n = 3
  | .dflt, n => n = 6
  | .dmeas, n => n = 18
  | .rsvd7, _ => True

theorem lengthFits_selectorOf_iff (op : BitVec 3) (n : Nat) : (selectorOf op).lengthFits n ↔
    op = 0#3 ∨ (op = 1#3 ∧ n = 2) ∨ (op = 2#3 ∧ n = 4) ∨ (op = 3#3 ∧ 2 ≤ n) ∨ (op = 4#3 ∧ n = 3) ∨
      (op = 5#3 ∧ n = 6) ∨ (op = 6#3 ∧ n = 18) ∨ op = 7#3 := by
  obtain ⟨row, rfl⟩ : ∃ row : Selector, op = row.bits := ⟨selectorOf op, (bits_selectorOf op).symm⟩
  rw [selectorOf_bits]
  cases row <;> simp [Selector.lengthFits, Selector.bits]

/-- The operand bytes of a request have the length of its row's format. -/
theorem lengthFits_operandBytes (i : Instr) : i.row.lengthFits i.operandBytes.length := by
  cases i with
  | bpay code data wcrc => simp [Instr.row, Selector.lengthFits, Instr.operandBytes]
  | crc8 data => trivial
  | rsvd7 => trivial
  | bcmd code => rfl
  | barg code arg => rfl
  | dword w => rfl
  | dflt g => rfl
  | dmeas m => rfl

theorem exists_half_bytes_eq {bs : List Byte} (h : bs.length = 3) : ∃ w : Half, w.bytes = bs := by
  obtain ⟨hi, lo, crc, rfl⟩ := List.length_eq_three.1 h
  exact ⟨⟨hi, lo, crc⟩, rfl⟩

theorem exists_group_bytes_eq {bs : List Byte} (h : bs.length = 6) : ∃ g : FloatGroup, g.bytes = bs := by
  obtain ⟨a, ha⟩ := exists_half_bytes_eq (bs := bs.take 3) (by simp [h])
  obtain ⟨b, hb⟩ := exists_half_bytes_eq (bs := bs.drop 3) (by simp [h])
  exact ⟨⟨a, b⟩, by rw [FloatGroup.bytes, ha, hb, List.take_append_drop]⟩

theorem exists_block_bytes_eq {bs : List Byte} (h : bs.length = 18) : ∃ m : MeasBlock, m.bytes = bs := by
  obtain ⟨a, ha⟩ := exists_group_bytes_eq (bs := bs.take 6) (by simp [h])
  obtain ⟨b, hb⟩ := exists_group_bytes_eq (bs := (bs.drop 6).take 6) (by simp [h])
  obtain ⟨c, hc⟩ := exists_group_bytes_eq (bs := bs.drop (2 * 6)) (by simp [h])
  exact ⟨⟨a, b, c⟩, by rw [MeasBlock.bytes, ha, hb, hc, take_append_take_drop_append_drop]⟩

/-- Operand bytes of the length of a row's format are read as some request. -/
theorem exists_decodeFields_of_lengthFits {row : Selector} (wcrc : BitVec 1) {bs : List Byte}
    (h : row.lengthFits bs.length) : ∃ i, decodeFields row wcrc bs = some i := by
  cases row with
  | crc8 => exact ⟨_, rfl⟩
  | bcmd =>
    obtain ⟨c1, c0, rfl⟩ := List.length_eq_two.1 h
    exact ⟨_, rfl⟩
  | barg =>
    match bs, h with
    | [c1, c0, a1, a0], _ => exact ⟨_, rfl⟩
  | bpay =>
    match bs, h with
    | c1 :: c0 :: data, _ => exact ⟨_, rfl⟩
  | dword =>
    obtain ⟨w, rfl⟩ := exists_half_bytes_eq h
    exact ⟨_, decodeFields_operandBytes (.dword w)⟩
  | dflt =>
    obtain ⟨g, rfl⟩ := exists_group_bytes_eq h
    exact ⟨_, decodeFields_operandBytes (.dflt g)⟩
  | dmeas =>
    obtain ⟨m, rfl⟩ := exists_block_bytes_eq h
    exact ⟨_, decodeFields_operandBytes (.dmeas m)⟩
  | rsvd7 => exact ⟨_, rfl⟩

/-- The operand bytes of a row are read as a request exactly when their length is that of the row's format. -/
theorem exists_decodeFields_iff {row : Selector} {wcrc : BitVec 1} {bs : List Byte} :
    (∃ i, decodeFields row wcrc bs = some i) ↔ row.lengthFits bs.length := by
  refine ⟨?_, exists_decodeFields_of_lengthFits wcrc⟩
  rintro ⟨i, h⟩
  obtain ⟨rfl, hbytes, -⟩ := decodeFields_eq_some h
  by_cases hrow : i.row = .rsvd7
  · rw [hrow]
    trivial
  · rw [← hbytes hrow]
    exact lengthFits_operandBytes i

/-- Settles O3: the operand lengths of the rows, written with the selector values. -/
theorem packetCarriesARequestExactlyWhenItsLengthFits :
    Obligations.PacketCarriesARequestExactlyWhenItsLengthFits := by
  intro p
  simp only [decode_eq_ok_iff]
  rw [exists_decodeFields_iff, lengthFits_selectorOf_iff]

/-! ## The answer to a request (R24, R29)

The response is a function of the request alone; the state enters only by its bound on the byte sequence. -/

/-- The response to a request that is accepted. -/
def Instr.answer : Instr → Response
  | .crc8 data => .ok (.crc (Machine.crc8 data))
  | .bcmd code => .ok (.frame (commandFrame code))
  | .barg code arg => .ok (.frame (argumentFrame code arg))
  | .bpay code data wcrc => .ok (.frame (payloadFrame code data wcrc))
  | .dword w => if halfValid w then .ok (.word (joinWord w.hi w.lo)) else .error .crcError
  | .dflt g => if groupValid g then .ok (.fbits (groupPattern g)) else .error .crcError
  | .dmeas m =>
    if blockValid m then .ok (.meas (groupPattern m.co2) (groupPattern m.temp) (groupPattern m.rh))
    else .error .crcError
  | .rsvd7 => .error .notImplemented

/-- The number of bytes of a request that MAXLEN bounds (R9): those of the byte sequence of CRC8 and BPAY. -/
def Instr.boundedLength : Instr → Nat
  | .crc8 data => data.length
  | .bpay _ data _ => data.length
  | .bcmd _ | .barg _ _ | .dword _ | .dflt _ | .dmeas _ | .rsvd7 => 0

/-- An accepted request is answered with its own response, and nothing else happens. -/
theorem exec_of_wellFormed {i : Instr} {s : State} (h : i.wellFormed s.config = true) :
    exec i s = .next (s.respond i.answer) := by
  cases i with
  | crc8 data => exact whenAccepted_of_accepts h _
  | bcmd code => rfl
  | barg code arg => rfl
  | bpay code data wcrc => exact whenAccepted_of_accepts h _
  | dword w =>
    rw [exec_dword, execDword, Instr.answer]
    split <;> rfl
  | dflt g =>
    rw [exec_dflt, execDflt, Instr.answer]
    split <;> rfl
  | dmeas m =>
    rw [exec_dmeas, execDmeas, Instr.answer]
    split <;> rfl
  | rsvd7 => rfl

/-- A request over MAXLEN is not accepted. -/
theorem exec_of_not_wellFormed {i : Instr} {s : State} (h : i.wellFormed s.config = false) :
    exec i s = .refused (.notAccepted i.boundedLength) := by
  cases i with
  | crc8 data => exact whenAccepted_of_not_accepts h _
  | bpay code data wcrc => exact whenAccepted_of_not_accepts h _
  | bcmd | barg | dword | dflt | dmeas | rsvd7 => cases h

/-- An answered request was within MAXLEN, and its response is its answer. -/
theorem exec_next_iff {i : Instr} {s t : State} :
    exec i s = .next t ↔ i.wellFormed s.config = true ∧ t = s.respond i.answer := by
  cases h : i.wellFormed s.config with
  | true => simp [exec_of_wellFormed h, eq_comm]
  | false => simp [exec_of_not_wellFormed h]

end Sys2Proof

namespace Sys2Proof.Machine

/-! ## What a step can do (R12, R25, R100) -/

theorem step_of_pending_nil {s : State} (hs : s.pending = []) : step s = .next s := by
  simp [step, nextInput_nil hs, idle]

theorem step_of_pending_reset {s : State} {rest : List HostInput} (hs : s.pending = .reset :: rest) :
    step s = .next { s with pending := rest } := by
  simp [step, nextInput_cons hs, takeReset]

theorem step_of_decode_error {s : State} {p : Packet} {rest : List HostInput} {e : DecodeError}
    (hs : s.pending = .request p :: rest) (hp : decode p = .error e) : step s = .refused (.noSuchRequest e) := by
  simp [step, nextInput_cons hs, hp, refusePacket]

/-- Settles O7: the step takes the packet off the list and refuses it for the reason its decoding gives. -/
theorem stepRefusesAPacketThatCarriesNoRequest : Obligations.StepRefusesAPacketThatCarriesNoRequest :=
  fun _ _ _ _ hs hp => step_of_decode_error hs hp

/-- Settles O52: an idle block and a reset have a next state; a request has one when it decodes and is within MAXLEN. -/
theorem stepStopsOnlyOnWhatIsNoRequest : Obligations.StepStopsOnlyOnWhatIsNoRequest := by
  intro s
  cases hs : s.pending with
  | nil => exact .inl ⟨_, step_of_pending_nil hs⟩
  | cons input rest =>
    cases input with
    | reset => exact .inl ⟨_, step_of_pending_reset hs⟩
    | request p =>
      cases hp : decode p with
      | error e => exact .inr ⟨p, rest, rfl, .inl ⟨e, hp, step_of_decode_error hs hp⟩⟩
      | ok i =>
        have hstep := step_of_decode_ok hs hp
        cases hi : i.wellFormed s.config with
        | true => exact .inl ⟨_, hstep.trans (exec_of_wellFormed hi)⟩
        | false => exact .inr ⟨p, rest, rfl, .inr ⟨i, _, hp, hi, hstep.trans (exec_of_not_wellFormed hi)⟩⟩

/-- Everything a step with a next state does: nothing, or it takes a reset off the list, or it takes a request within MAXLEN off
the list and adds its answer. -/
theorem step_next {s t : State} (h : step s = .next t) :
    (s.pending = [] ∧ t = s) ∨
    (∃ rest, s.pending = .reset :: rest ∧ t = { s with pending := rest }) ∨
    (∃ p rest i, s.pending = .request p :: rest ∧ decode p = .ok i ∧ i.wellFormed s.config = true ∧
      t = ({ s with pending := rest } : State).respond i.answer) := by
  cases hs : s.pending with
  | nil =>
    rw [step_of_pending_nil hs] at h
    cases h
    exact .inl ⟨rfl, rfl⟩
  | cons input rest =>
    cases input with
    | reset =>
      rw [step_of_pending_reset hs] at h
      cases h
      exact .inr (.inl ⟨rest, rfl, rfl⟩)
    | request p =>
      cases hp : decode p with
      | error e =>
        rw [step_of_decode_error hs hp] at h
        cases h
      | ok i =>
        rw [step_of_decode_ok hs hp] at h
        obtain ⟨hi, ht⟩ := exec_next_iff.1 h
        exact .inr (.inr ⟨p, rest, i, rfl, hp, hi, ht⟩)

/-! ## The responses the block may give (R13, R42, R85, R86) -/

/-- The bounds R42 gives for a BPAY frame: the code and the payload, and at most one checksum byte. -/
theorem payloadFrame_length_bounds (code : Word) (data : List Byte) (wcrc : BitVec 1) :
    2 ≤ (payloadFrame code data wcrc).length ∧ (payloadFrame code data wcrc).length ≤ data.length + 3 := by
  unfold payloadFrame
  split
  · simp only [List.length_append, wordBytes_length, List.length_singleton]
    omega
  · simp only [List.length_append, wordBytes_length]
    omega

/-- A frame of two to five bytes is legal whatever MAXLEN is. -/
theorem frameLengthLegal_of_le_five (c : Config) {n : Nat} (h : 2 ≤ n) (h' : n ≤ 5) : frameLengthLegal c n :=
  ⟨h, fun _ _ => h'.trans (le_max_left _ _)⟩

/-- The answer to a request within MAXLEN is a response the block may give. -/
theorem answer_producible {i : Instr} {c : Config} (h : i.wellFormed c = true) : i.answer.producible c := by
  cases i with
  | crc8 data => trivial
  | bcmd code => exact frameLengthLegal_of_le_five c (n := 2) (by decide) (by decide)
  | barg code arg => exact frameLengthLegal_of_le_five c (n := 5) (by decide) (by decide)
  | bpay code data wcrc =>
    obtain ⟨hmin, hmax⟩ := payloadFrame_length_bounds code data wcrc
    refine ⟨hmin, fun m hm => ?_⟩
    have hdata : data.length ≤ m := (accepts_iff c data.length).1 h m hm
    omega
  | dword w =>
    rw [Instr.answer]
    split <;> trivial
  | dflt g =>
    rw [Instr.answer]
    split <;> trivial
  | dmeas m =>
    rw [Instr.answer]
    split <;> trivial
  | rsvd7 => trivial

/-- Giving a response the block may give keeps the invariant. -/
theorem inv_respond {s : State} {r : Response} (hs : s.Inv) (hr : r.producible s.config) : (s.respond r).Inv := by
  intro r' hr'
  rw [respond_responses, List.mem_append, List.mem_singleton] at hr'
  obtain hold | rfl := hr'
  · exact hs r' hold
  · exact hr

/-- The invariant does not look at the host inputs to come. -/
theorem inv_with_pending {s : State} (hs : s.Inv) (pending : List HostInput) :
    ({ s with pending := pending } : State).Inv := hs

/-- Settles O54: a step leaves the responses as they are or adds the answer to a request within MAXLEN. -/
theorem stepKeepsResponsesProducible : Obligations.StepKeepsResponsesProducible := by
  intro s t hs h
  obtain ⟨-, rfl⟩ | ⟨rest, -, rfl⟩ | ⟨p, rest, i, -, -, hi, rfl⟩ := step_next h
  · exact hs
  · exact inv_with_pending hs rest
  · exact inv_respond (inv_with_pending hs rest) (answer_producible hi)

/-- Settles O55: at reset no response has been given. -/
theorem responsesProducibleAtReset : Obligations.ResponsesProducibleAtReset := by
  intro r hr
  rw [reset_responses] at hr
  cases hr

/-- No error has the status of OK (R85). -/
theorem errorKind_code_ne_zero (k : ErrorKind) : k.code ≠ 0#3 := by
  cases k <;> decide

/-- Settles O43: the five codes, and a response with a result is an OK, whose status no error has. -/
theorem statusCodesAndResultFields : Obligations.StatusCodesAndResultFields := by
  refine ⟨status_ok, rfl, rfl, rfl, rfl, fun r => ?_⟩
  cases r with
  | ok v => simp
  | error k => simp [errorKind_code_ne_zero k]

end Sys2Proof.Machine

namespace Sys2Proof

open Machine

/-! ## Requests within and over MAXLEN (R9, R24, R29, R49, R62) -/

/-- Non-acceptance as an inequality: MAXLEN is set and smaller. -/
theorem accepts_eq_false_iff (c : Config) (n : Nat) : c.accepts n = false ↔ ∃ m, c.maxLen = some m ∧ m < n := by
  simp [← Bool.not_eq_true, accepts_iff]

/-- A request exists for an instance exactly when its bounded byte sequence is accepted; with no such sequence the length
is 0, which every bound accepts. -/
theorem wellFormed_eq_accepts (c : Config) (i : Instr) : i.wellFormed c = c.accepts i.boundedLength := by
  have accepts_zero : c.accepts 0 = true := (accepts_iff c 0).2 fun m _ => m.zero_le
  cases i with
  | crc8 | bpay => rfl
  | bcmd | barg | dword | dflt | dmeas | rsvd7 => exact accepts_zero.symm

/-- Settles O49: within MAXLEN the response is the request's answer; over it, the bound is the one the request's length
exceeds. -/
theorem everyAcceptedRequestHasOneResponse : Obligations.EveryAcceptedRequestHasOneResponse := by
  intro i s
  refine ⟨fun h => ⟨i.answer, exec_of_wellFormed h⟩, fun h => ?_⟩
  obtain ⟨m, hset, hlt⟩ := (accepts_eq_false_iff _ _).1 ((wellFormed_eq_accepts s.config i).symm.trans h)
  exact ⟨i.boundedLength, m, exec_of_not_wellFormed h, hset, hlt⟩

/-- Settles O50: the function is `Instr.answer`, which does not look at the state. -/
theorem responseIsAFunctionOfTheRequest : Obligations.ResponseIsAFunctionOfTheRequest :=
  ⟨Instr.answer, fun _ _ h => exec_of_wellFormed h⟩

end Sys2Proof

namespace Sys2Proof.Machine

/-! ## Runs (R25, R29, R108) -/

/-- A run whose first step has a next state goes on from there. -/
theorem run_succ_of_step {s t : State} (h : step s = .next t) (k : Nat) :
    Host.Core.run core (k + 1) s = Host.Core.run core k t := by
  have hcore : core.step s = .next t := h
  simp [Host.Core.run, hcore]

/-- A step on the packet of a request within MAXLEN takes it off the list and adds its answer. -/
theorem step_of_encode {s : State} {i : Instr} {rest : List HostInput} (hs : s.pending = .request (encode i) :: rest)
    (hi : i.wellFormed s.config = true) : step s = .next (({ s with pending := rest } : State).respond i.answer) :=
  (step_of_decode_ok hs (requestReadsBackFromItsPacket i)).trans (exec_of_wellFormed hi)

/-- As many steps as there are pending requests, all within MAXLEN, answer them in order. -/
theorem run_of_pending_requests (requests : List Instr) (s : State)
    (hreq : ∀ i ∈ requests, i.wellFormed s.config = true)
    (hs : s.pending = requests.map fun i => .request (encode i)) :
    Host.Core.run core requests.length s =
      .next { s with pending := [], responses := s.responses ++ requests.map Instr.answer } := by
  induction requests generalizing s with
  | nil =>
    obtain ⟨config, pending, responses⟩ := s
    obtain rfl : pending = [] := hs
    simp [Host.Core.run]
  | cons i rest ih =>
    have hstep := step_of_encode hs (hreq i List.mem_cons_self)
    have hrest := ih (({ s with pending := rest.map fun i => .request (encode i) } : State).respond i.answer)
      (fun j hj => hreq j (List.mem_cons_of_mem i hj)) rfl
    rw [List.length_cons, run_succ_of_step hstep, hrest]
    simp [State.respond]

/-- Settles O51: by induction on the list of requests, with `Instr.answer` as the function. -/
theorem runAnswersRequestsInOrder : Obligations.RunAnswersRequestsInOrder :=
  ⟨Instr.answer, fun _ _ h => exec_of_wellFormed h, run_of_pending_requests⟩

/-! ## The count of requests and responses (R24, R25, R91) -/

@[simp] theorem respond_requestsLeft (s : State) (r : Response) : (s.respond r).requestsLeft = s.requestsLeft := rfl

theorem requestsLeft_of_pending_reset {s : State} {rest : List HostInput} (hs : s.pending = .reset :: rest) :
    s.requestsLeft = ({ s with pending := rest } : State).requestsLeft := by
  simp [State.requestsLeft, hs]

theorem requestsLeft_of_pending_request {s : State} {p : Packet} {rest : List HostInput}
    (hs : s.pending = .request p :: rest) :
    s.requestsLeft = ({ s with pending := rest } : State).requestsLeft + 1 := by
  simp [State.requestsLeft, hs]

/-- Settles O53: of the three things a step can do, only the service of a request changes the two counts, each by one. -/
theorem stepExchangesRequestsForResponses : Obligations.StepExchangesRequestsForResponses := by
  intro s t h
  obtain ⟨-, rfl⟩ | ⟨rest, hs, rfl⟩ | ⟨p, rest, i, hs, -, -, rfl⟩ := step_next h
  · exact ⟨rfl, List.prefix_rfl, rfl⟩
  · exact ⟨rfl, List.prefix_rfl, by rw [requestsLeft_of_pending_reset hs]⟩
  · refine ⟨rfl, List.prefix_append _ _, ?_⟩
    rw [requestsLeft_of_pending_request hs, respond_requestsLeft, respond_responses, List.length_append,
      List.length_singleton]
    exact Nat.succ_add_eq_add_succ _ _

end Sys2Proof.Machine

namespace Sys2Proof

open Machine

/-! ## The packet of each selector value (R21, R31, R41)

A packet decodes to the request its operand fields are read as, so each selector value needs only the fields of its format.
Two bytes of a 16-bit field stand side by side in it, the first of them high. -/

theorem decode_selector_crc8 (f : BitVec 1) (bs : List Byte) : decode ⟨0#3, f, bs⟩ = .ok (.crc8 bs) :=
  decode_eq_ok_iff.2 rfl

theorem decode_selector_bcmd (f : BitVec 1) (c1 c0 : Byte) :
    decode ⟨1#3, f, [c1, c0]⟩ = .ok (.bcmd (c1 ++ c0)) := by
  rw [← joinWord_eq_append]
  exact decode_eq_ok_iff.2 rfl

theorem decode_selector_barg (f : BitVec 1) (c1 c0 a1 a0 : Byte) :
    decode ⟨2#3, f, [c1, c0, a1, a0]⟩ = .ok (.barg (c1 ++ c0) (a1 ++ a0)) := by
  rw [← joinWord_eq_append, ← joinWord_eq_append]
  exact decode_eq_ok_iff.2 rfl

theorem decode_selector_bpay (f : BitVec 1) (c1 c0 : Byte) (bs : List Byte) :
    decode ⟨3#3, f, c1 :: c0 :: bs⟩ = .ok (.bpay (c1 ++ c0) bs f) := by
  rw [← joinWord_eq_append]
  exact decode_eq_ok_iff.2 rfl

theorem decode_selector_dword (f : BitVec 1) (w : Half) : decode ⟨4#3, f, w.bytes⟩ = .ok (.dword w) :=
  decode_eq_ok_iff.2 (Option.map_eq_some_iff.2 ⟨w, halfOfBytes_eq_some_iff.2 rfl, rfl⟩)

theorem decode_selector_dflt (f : BitVec 1) (g : FloatGroup) : decode ⟨5#3, f, g.bytes⟩ = .ok (.dflt g) :=
  decode_eq_ok_iff.2 (Option.map_eq_some_iff.2 ⟨g, groupOfBytes_eq_some_iff.2 rfl, rfl⟩)

theorem decode_selector_dmeas (f : BitVec 1) (m : MeasBlock) : decode ⟨6#3, f, m.bytes⟩ = .ok (.dmeas m) :=
  decode_eq_ok_iff.2 (Option.map_eq_some_iff.2 ⟨m, blockOfBytes_eq_some_iff.2 rfl, rfl⟩)

theorem decode_selector_rsvd7 (f : BitVec 1) (bs : List Byte) : decode ⟨7#3, f, bs⟩ = .ok .rsvd7 :=
  decode_eq_ok_iff.2 rfl

/-- Settles O4: the packet of each selector value in turn. -/
theorem selectorDecidesTheFormat : Obligations.SelectorDecidesTheFormat := by
  intro f bs c1 c0 a1 a0 w0 w1 w2 w3 w4 w5
  exact ⟨decode_selector_crc8 f bs, decode_selector_bcmd f c1 c0, decode_selector_barg f c1 c0 a1 a0,
    decode_selector_bpay f c1 c0 bs, decode_selector_dword f ⟨w0, w1, w2⟩,
    decode_selector_dflt f ⟨⟨w0, w1, w2⟩, ⟨w3, w4, w5⟩⟩, decode_selector_dmeas f, decode_selector_rsvd7 f bs⟩

/-- Settles O5: cases of the packets of the selector values, with the two bytes of each 16-bit field joined. -/
theorem requestsOfTheTestProgramsDecode : Obligations.RequestsOfTheTestProgramsDecode :=
  ⟨decode_selector_crc8 _ _, decode_selector_bcmd _ 0x46 0x00, decode_selector_barg _ 0x46 0x00 0x00 0x02,
    decode_selector_bpay _ 0x10 0x0A _, decode_selector_dword _ ⟨0xBE, 0xEF, 0x92⟩,
    decode_selector_dflt _ ⟨⟨0x3F, 0x80, 0xD0⟩, ⟨0x00, 0x00, 0x81⟩⟩, decode_selector_rsvd7 _ _⟩

/-- Only the reserved request is answered NOT_IMPLEMENTED (R41, R89). -/
theorem answer_eq_notImplemented_iff {i : Instr} : i.answer = .error .notImplemented ↔ i = .rsvd7 := by
  cases i with
  | crc8 | bcmd | barg | bpay | rsvd7 => simp [Instr.answer]
  | dword w =>
    rw [Instr.answer]
    split <;> simp
  | dflt g =>
    rw [Instr.answer]
    split <;> simp
  | dmeas m =>
    rw [Instr.answer]
    split <;> simp

/-- Settles O44: selector 7 is the reserved request whatever stands beside it, and no other request has its answer. -/
theorem reservedSelectorIsNotImplemented : Obligations.ReservedSelectorIsNotImplemented := by
  refine ⟨?_, fun s => exec_of_wellFormed (i := .rsvd7) rfl, fun i s hi hne => ?_⟩
  · rintro ⟨op, f, bs⟩ rfl
    exact decode_selector_rsvd7 f bs
  · exact ⟨i.answer, exec_of_wellFormed hi, fun h => hne (answer_eq_notImplemented_iff.1 h)⟩

end Sys2Proof

namespace Sys2Proof.Machine

/-! ## The frames of the encoder (R33 to R35, R42, R60 to R64) -/

/-- BPAY's frame byte by byte: the code, the payload, and at most one checksum byte after it (R35, R62). -/
theorem payloadFrame_eq (code : Word) (data : List Byte) (wcrc : BitVec 1) :
    payloadFrame code data wcrc = hiByte code :: loByte code :: data ++
      if wcrc = 1#1 ∧ data ≠ [] then [crc8 data] else [] := by
  simp only [payloadFrame, wordBytes, List.length_pos_iff]
  split <;> simp

/-- One more byte than the code and the payload exactly when there is a checksum (R42). -/
theorem payloadFrame_length (code : Word) (data : List Byte) (wcrc : BitVec 1) :
    (payloadFrame code data wcrc).length = 2 + data.length + if wcrc = 1#1 ∧ 0 < data.length then 1 else 0 := by
  unfold payloadFrame
  split <;> simp [Nat.add_assoc]

/-- Settles O29: BCMD and BARG have frames of fixed length, and BPAY's length is read off `payloadFrame_length`. -/
theorem framesHaveTheirLengths : Obligations.FramesHaveTheirLengths := by
  intro code arg data wcrc s h
  refine ⟨commandFrame code, argumentFrame code arg, payloadFrame code data wcrc,
    exec_of_wellFormed (i := .bcmd code) rfl, rfl, exec_of_wellFormed (i := .barg code arg) rfl, rfl,
    exec_of_wellFormed (i := .bpay code data wcrc) h, ?_, ?_, ?_⟩
  · rintro rfl
    simp [payloadFrame_length]
  · rintro rfl hpos
    simp [payloadFrame_length, hpos]
  · rintro rfl hzero
    simp [payloadFrame_length, hzero]

/-- Settles O25: BCMD's frame is the two bytes of the code. -/
theorem bcmdBuildsTheCommandFrame : Obligations.BcmdBuildsTheCommandFrame :=
  fun code _ => exec_of_wellFormed (i := .bcmd code) rfl

/-- Settles O26: BARG's frame is the code, the argument and the checksum of the argument's two bytes. -/
theorem bargBuildsTheArgumentFrame : Obligations.BargBuildsTheArgumentFrame :=
  ⟨fun code arg _ => exec_of_wellFormed (i := .barg code arg) rfl, by decide +kernel, by decide +kernel⟩

/-- Settles O27: BPAY's frame byte by byte where the payload is within MAXLEN, and no response where it is not. -/
theorem bpayBuildsThePayloadFrame : Obligations.BpayBuildsThePayloadFrame := by
  refine ⟨fun code data wcrc s h => ?_, fun code data wcrc s h => ?_, by decide +kernel⟩
  · rw [exec_of_wellFormed (i := .bpay code data wcrc) h, Instr.answer, payloadFrame_eq]
    rfl
  · exact exec_of_not_wellFormed (i := .bpay code data wcrc) h

/-- Settles O31: BCMD's frame at each of the eleven codes. -/
theorem commandCodesAndTheirFrames : Obligations.CommandCodesAndTheirFrames := by
  intro s c
  rw [bcmdBuildsTheCommandFrame]
  cases c <;> rfl

/-! ## Sealing and verifying (R44, R51) -/

/-- A pass over two sequences goes on from the accumulator the first one leaves (R53). -/
theorem crc8Acc_append (acc : Byte) (s t : List Byte) : crc8Acc acc (s ++ t) = crc8Acc (crc8Acc acc s) t := by
  induction s generalizing acc with
  | nil => rfl
  | cons b s ih => exact ih (crc8Step acc b)

/-- The shift iterations keep 0. -/
theorem crc8Bits_zero (n : Nat) : crc8Bits n 0#8 = 0#8 := by
  induction n with
  | zero => rfl
  | succ n ih => exact ih

/-- A byte equal to the accumulator clears it. -/
theorem crc8Step_self (a : Byte) : crc8Step a a = 0#8 := by
  rw [crc8Step, BitVec.xor_self, crc8Bits_zero]

/-- A sequence followed by its own checksum has residue 0 (R51): the checksum meets an accumulator equal to it. -/
theorem crc8_append_crc8 (s : List Byte) : crc8 (s ++ [crc8 s]) = 0#8 := by
  calc crc8 (s ++ [crc8 s]) = crc8Step (crc8 s) (crc8 s) := crc8Acc_append Config.init s [crc8 s]
    _ = 0#8 := crc8Step_self (crc8 s)

/-- Where a length is within MAXLEN, so is every shorter one. -/
theorem accepts_of_le {c : Config} {m n : Nat} (hmn : m ≤ n) (h : c.accepts n = true) : c.accepts m = true :=
  (accepts_iff c m).2 fun k hk => hmn.trans ((accepts_iff c n).1 h k hk)

/-- Settles O56: both requests are within MAXLEN, and the checksum of the sealed sequence is 0. -/
theorem verifyOfASealedSequenceIsTrue : Obligations.VerifyOfASealedSequenceIsTrue := by
  intro data s h
  have hdata : s.config.accepts data.length = true := accepts_of_le (Nat.le_succ _) h
  have hsealed : s.config.accepts (data ++ [crc8 data]).length = true := by
    rwa [List.length_append, List.length_singleton]
  refine ⟨.ok (.crc (crc8 data)), .ok (.crc (crc8 (data ++ [crc8 data]))), data ++ [crc8 data],
    exec_of_wellFormed (i := .crc8 data) hdata, rfl,
    exec_of_wellFormed (i := .crc8 (data ++ [crc8 data])) hsealed, ?_⟩
  rw [crc8_append_crc8]
  rfl

end Sys2Proof.Machine

namespace Sys2Proof.Machine

/-! ## The shift iteration (R45, R52)

The bit that leaves at the top comes back as bit 0 of what is XORed in, since bit 0 of `POLY` is set. So nothing is lost: an
iteration, a byte step and a pass are injective in the accumulator, and a step is also injective in the byte. -/

/-- The shift iteration as one XOR, without a branch around the shift. -/
theorem crc8Bit_eq_shift_xor (a : Byte) : crc8Bit a = (a <<< 1) ^^^ (if a.getLsbD 7 then Config.poly else 0#8) := by
  unfold crc8Bit
  split
  · rfl
  · exact BitVec.xor_zero.symm

/-- Bit 0 of the result is the bit the shift pushed out. -/
theorem crc8Bit_getLsbD_zero (a : Byte) : (crc8Bit a).getLsbD 0 = a.getLsbD 7 := by
  rw [crc8Bit_eq_shift_xor, BitVec.getLsbD_xor, BitVec.getLsbD_shiftLeft]
  cases a.getLsbD 7 <;> rfl

/-- What is left after a shift to the left, and the bit it pushed out, are the whole byte. -/
theorem shiftLeft_ushiftRight_or_shiftLeft {a r : Byte} (h : r.getLsbD 0 = a.getLsbD 7) :
    (a <<< 1) >>> 1 ||| r <<< 7 = a := by
  refine BitVec.eq_of_getLsbD_eq fun i hi => ?_
  obtain rfl | hlt : i = 7 ∨ i < 7 := by omega
  · simpa using h
  · have hlt' : 1 + i < 8 := by omega
    simp [hlt, hlt', hi]

/-- The formula of R52 recovers the input of a shift iteration. -/
theorem crc8Bit_left_inverse (a : Byte) :
    (((crc8Bit a) ^^^ (if (crc8Bit a).getLsbD 0 then 0x31#8 else 0#8)) >>> 1) ||| ((crc8Bit a) <<< 7) = a := by
  have hcancel : crc8Bit a ^^^ (if (crc8Bit a).getLsbD 0 then 0x31#8 else 0#8) = a <<< 1 := by
    rw [crc8Bit_getLsbD_zero, crc8Bit_eq_shift_xor, BitVec.xor_assoc, Config.poly, BitVec.xor_self, BitVec.xor_zero]
  rw [hcancel, shiftLeft_ushiftRight_or_shiftLeft (crc8Bit_getLsbD_zero a)]

theorem crc8Bit_injective : Function.Injective crc8Bit := fun a b h => by
  rw [← crc8Bit_left_inverse a, h, crc8Bit_left_inverse b]

/-- Settles O17: R52's formula is a left inverse, and an injective map of the 256 bytes to themselves takes every value. -/
theorem shiftIterationIsABijection : Obligations.ShiftIterationIsABijection :=
  ⟨rfl, crc8Bit_left_inverse, Finite.surjective_of_injective crc8Bit_injective⟩

/-- The top bit of a byte as an inequality. -/
theorem getLsbD_seven (a : Byte) : a.getLsbD 7 = decide (128 ≤ a.toNat) :=
  (BitVec.msb_eq_getLsbD_last a).symm.trans (BitVec.msb_eq_decide a)

/-- The shift iteration in numbers: the 8-bit shift drops 256 exactly when the top bit was set. -/
theorem toNat_crc8Bit (a : Byte) : (crc8Bit a).toNat =
    if a.toNat < 128 then 2 * a.toNat else (2 * a.toNat - 256) ^^^ 0x31 := by
  have hshift : (a <<< 1).toNat = 2 * a.toNat % 256 := by
    rw [BitVec.toNat_shiftLeft, Nat.shiftLeft_eq, Nat.mul_comm]
  have hlt : a.toNat < 256 := a.isLt
  rw [crc8Bit, getLsbD_seven]
  by_cases h : a.toNat < 128
  · rw [if_pos h, if_neg (by simpa using h), hshift]
    omega
  · have hmod : 2 * a.toNat % 256 = 2 * a.toNat - 256 := by omega
    rw [if_neg h, if_pos (by simpa using h), BitVec.toNat_xor, hshift, hmod]
    rfl

/-- The loop of R46 is the iterate of the shift iteration. -/
theorem crc8Bits_eq_iterate (n : Nat) (a : Byte) : crc8Bits n a = crc8Bit^[n] a := by
  induction n generalizing a with
  | zero => rfl
  | succ n ih => exact ih (crc8Bit a)

/-- Settles O11: the value of a shift below and above 128, and the byte step as eight of them. -/
theorem shiftIterationAndByteStep : Obligations.ShiftIterationAndByteStep :=
  ⟨toNat_crc8Bit, fun acc b => crc8Bits_eq_iterate 8 (acc ^^^ b)⟩

/-! ## Passes (R47, R48, R53) -/

/-- A pass is the fold of the byte step. -/
theorem crc8Acc_eq_foldl (acc : Byte) (s : List Byte) : crc8Acc acc s = s.foldl crc8Step acc := by
  induction s generalizing acc with
  | nil => rfl
  | cons b s ih => exact ih (crc8Step acc b)

/-- Settles O12: a checksum is the pass from `INIT`. -/
theorem passFoldsTheBytesFromInit : Obligations.PassFoldsTheBytesFromInit :=
  ⟨crc8Acc_eq_foldl, crc8Acc_eq_foldl 0xFF#8⟩

/-- Settles O18: `crc8Acc_append`. -/
theorem incrementalLaw : Obligations.IncrementalLaw := crc8Acc_append

/-- Settles O15: `crc8_append_crc8`, the law VERIFY of a sealed sequence rests on. -/
theorem zeroResidueLaw : Obligations.ZeroResidueLaw := crc8_append_crc8

theorem crc8Bits_injective (n : Nat) : Function.Injective (crc8Bits n) := by
  rw [funext (crc8Bits_eq_iterate n)]
  exact crc8Bit_injective.iterate n

/-- Different bytes leave different accumulators. -/
theorem crc8Step_right_injective (acc : Byte) : Function.Injective (crc8Step acc) :=
  fun _ _ h => (BitVec.xor_right_inj acc).1 (crc8Bits_injective _ h)

/-- Different accumulators stay different over a byte. -/
theorem crc8Step_left_injective (b : Byte) : Function.Injective (crc8Step · b) :=
  fun _ _ h => (BitVec.xor_left_inj b).1 (crc8Bits_injective _ h)

/-- Different accumulators stay different over a pass. -/
theorem crc8Acc_left_injective (s : List Byte) : Function.Injective (crc8Acc · s) := by
  induction s with
  | nil => exact fun _ _ h => h
  | cons b s ih => exact ih.comp (crc8Step_left_injective b)

/-- One more byte is one more step from the checksum so far (R53). -/
theorem crc8_append_singleton (s : List Byte) (c : Byte) : crc8 (s ++ [c]) = crc8Step (crc8 s) c :=
  crc8Acc_append Config.init s [c]

/-- Residue 0 exactly when the last byte is the checksum (R52): a step ends at 0 for one byte only. -/
theorem crc8_append_singleton_eq_zero_iff (s : List Byte) (c : Byte) : crc8 (s ++ [c]) = 0x00#8 ↔ c = crc8 s := by
  rw [crc8_append_singleton, ← crc8Step_self (crc8 s)]
  exact (crc8Step_right_injective (crc8 s)).eq_iff

/-- Settles O16: `crc8_append_singleton_eq_zero_iff`. -/
theorem verificationEquivalence : Obligations.VerificationEquivalence := crc8_append_singleton_eq_zero_iff

/-! ## One changed byte (R56)

The changed byte leaves a different accumulator, and the bytes after it keep the two apart. -/

theorem crc8Acc_set_ne {t : List Byte} {k : Nat} {b : Byte} (hk : k < t.length) (hb : t[k]? ≠ some b) (acc : Byte) :
    crc8Acc acc (t.set k b) ≠ crc8Acc acc t := by
  induction t generalizing k acc with
  | nil => cases hk
  | cons x t ih =>
    cases k with
    | zero =>
      intro h
      have hstep : crc8Step acc b = crc8Step acc x := crc8Acc_left_injective t h
      exact hb (congrArg some (crc8Step_right_injective acc hstep)).symm
    | succ k => exact ih (Nat.lt_of_succ_lt_succ hk) hb (crc8Step acc x)

/-- Settles O21: the codeword has residue 0, so the changed one has another. -/
theorem singleByteCorruptionIsDetected : Obligations.SingleByteCorruptionIsDetected := by
  intro s k b hk hb
  rw [← crc8_append_crc8 s]
  exact crc8Acc_set_ne hk hb Config.init

/-! ## Linearity (R57) -/

theorem crc8Bit_xor (a a' : Byte) : crc8Bit (a ^^^ a') = crc8Bit a ^^^ crc8Bit a' := by
  have hpoly : (if (a ^^^ a').getLsbD 7 then Config.poly else 0#8) =
      (if a.getLsbD 7 then Config.poly else 0#8) ^^^ (if a'.getLsbD 7 then Config.poly else 0#8) := by
    rw [BitVec.getLsbD_xor]
    cases a.getLsbD 7 <;> cases a'.getLsbD 7 <;> rfl
  simp only [crc8Bit_eq_shift_xor, hpoly, BitVec.shiftLeft_xor_distrib]
  ac_rfl

theorem crc8Bits_xor (n : Nat) (a a' : Byte) : crc8Bits n (a ^^^ a') = crc8Bits n a ^^^ crc8Bits n a' := by
  induction n generalizing a a' with
  | zero => rfl
  | succ n ih => rw [crc8Bits, crc8Bit_xor, ih, crc8Bits, crc8Bits]

theorem crc8Step_xor (a a' b b' : Byte) :
    crc8Step (a ^^^ a') (b ^^^ b') = crc8Step a b ^^^ crc8Step a' b' := by
  have hswap : a ^^^ a' ^^^ (b ^^^ b') = a ^^^ b ^^^ (a' ^^^ b') := by ac_rfl
  rw [crc8Step, hswap, crc8Bits_xor, crc8Step, crc8Step]

/-- Settles O23: a step is linear, and so is a pass, byte by byte. -/
theorem checksumPassIsLinear : Obligations.ChecksumPassIsLinear := by
  intro a a' s s' hlen
  induction s generalizing a a' s' with
  | nil =>
    obtain rfl : s' = [] := List.length_eq_zero_iff.1 hlen.symm
    rfl
  | cons b s ih =>
    cases s' with
    | nil => cases hlen
    | cons b' s' =>
      rw [List.zipWith_cons_cons, crc8Acc_cons, crc8Step_xor, ih _ _ s' (Nat.succ_inj.1 hlen), crc8Acc_cons,
        crc8Acc_cons]

/-! ## The polynomial remainder (R50)

Long division goes from the top bit down, so it may stop after the first bytes and go on with the remainder in their place.
That is what the accumulator does: it is the remainder of the bytes so far. -/

@[simp] theorem polyMod_zero (v : Nat) : polyMod 0 v = v := rfl
@[simp] theorem polyMod_succ (n v : Nat) :
    polyMod (n + 1) v = polyMod n (if v.testBit (n + 8) then v ^^^ (0x131 <<< n) else v) := rfl

/-- A multiple `d` of `P` taken off one summand, the other, or both, in which case it cancels. -/
theorem ite_xor_ite (p q : Bool) (u v d : Nat) :
    (if p ^^ q then u ^^^ v ^^^ d else u ^^^ v) = (if p then u ^^^ d else u) ^^^ (if q then v ^^^ d else v) :=
  match p, q with
  | false, false => rfl
  | false, true => Nat.xor_assoc u v d
  | true, false => Nat.xor_right_comm u v d
  | true, true => by
    have hcancel : (u ^^^ d) ^^^ (v ^^^ d) = (u ^^^ v) ^^^ (d ^^^ d) := by ac_rfl
    simpa using hcancel.symm

/-- The remainder is linear over GF(2). -/
theorem polyMod_xor (n u v : Nat) : polyMod n (u ^^^ v) = polyMod n u ^^^ polyMod n v := by
  induction n generalizing u v with
  | zero => rfl
  | succ n ih => rw [polyMod_succ, Nat.testBit_xor, ite_xor_ite, ih, polyMod_succ, polyMod_succ]

/-- Dividing `v x^k` may start with dividing `v`. -/
theorem polyMod_add_shiftLeft (n k v : Nat) : polyMod (n + k) (v <<< k) = polyMod k (polyMod n v <<< k) := by
  induction n generalizing v with
  | zero => rw [Nat.zero_add, polyMod_zero]
  | succ n ih =>
    have hcond : (v <<< k).testBit (n + k + 8) = v.testBit (n + 8) := by
      rw [Nat.testBit_shiftLeft]
      simp [show n + k + 8 - k = n + 8 by omega, show k ≤ n + k + 8 by omega]
    rw [Nat.add_right_comm, polyMod_succ, polyMod_succ, ← ih, hcond]
    split
    · rw [Nat.shiftLeft_xor_distrib, Nat.shiftLeft_add]
    · rfl

/-- Where the coefficients are 0 the division does nothing. -/
theorem polyMod_add_of_lt {m v : Nat} (n : Nat) (h : v < 2 ^ (m + 8)) : polyMod (m + n) v = polyMod m v := by
  induction n with
  | zero => rfl
  | succ n ih =>
    have hbit : v.testBit (m + n + 8) = false :=
      Nat.testBit_lt_two_pow (h.trans_le (Nat.pow_le_pow_right two_pos (by omega)))
    rw [← Nat.add_assoc, polyMod_succ, hbit, if_neg Bool.false_ne_true, ih]

/-- Numbers that do not overlap are added by XOR. -/
theorem shiftLeft_add_eq_xor {b k : Nat} (h : b < 2 ^ k) (a : Nat) : a <<< k + b = a <<< k ^^^ b := by
  refine Nat.eq_of_testBit_eq fun i => ?_
  rw [Nat.testBit_xor, Nat.testBit_shiftLeft, Nat.shiftLeft_eq, Nat.mul_comm, Nat.testBit_two_pow_mul_add a h]
  by_cases hi : i < k
  · simp [hi, Nat.not_le_of_lt hi]
  · have hb : b.testBit i = false := Nat.testBit_lt_two_pow (h.trans_le (Nat.pow_le_pow_right two_pos (by omega)))
    simp [hi, hb, Nat.le_of_not_lt hi]

/-- One iteration divides `a x` by `P`. -/
theorem toNat_crc8Bit_eq_polyMod (a : Byte) : (crc8Bit a).toNat = polyMod 1 (a.toNat <<< 1) := by
  have hbit : (a.toNat <<< 1).testBit 8 = decide (128 ≤ a.toNat) := by
    rw [← getLsbD_seven, Nat.testBit_shiftLeft]
    rfl
  rw [toNat_crc8Bit, polyMod_succ, hbit, polyMod_zero]
  have hlt : a.toNat < 256 := a.isLt
  have hdouble : a.toNat <<< 1 = 2 * a.toNat := by rw [Nat.shiftLeft_eq, Nat.mul_comm]
  by_cases h : a.toNat < 128
  · rw [if_pos h, if_neg (by simpa using h), hdouble]
  · have hsplit : a.toNat <<< 1 = 1 <<< 8 ^^^ (2 * a.toNat - 256) := by
      rw [← shiftLeft_add_eq_xor (by omega : 2 * a.toNat - 256 < 2 ^ 8)]
      omega
    rw [if_neg h, if_pos (by simpa using h), hsplit, Nat.xor_comm (1 <<< 8), Nat.xor_assoc]
    rfl

/-- `n` iterations divide `a x^n` by `P`. -/
theorem toNat_crc8Bits_eq_polyMod (n : Nat) (a : Byte) : (crc8Bits n a).toNat = polyMod n (a.toNat <<< n) := by
  induction n generalizing a with
  | zero => rfl
  | succ n ih =>
    rw [crc8Bits, ih, toNat_crc8Bit_eq_polyMod, ← polyMod_add_shiftLeft, ← Nat.shiftLeft_add, Nat.add_comm 1 n]

theorem toNat_crc8Step_eq_polyMod (acc b : Byte) :
    (crc8Step acc b).toNat = polyMod 8 ((acc ^^^ b).toNat <<< 8) :=
  toNat_crc8Bits_eq_polyMod 8 (acc ^^^ b)

/-- A number read on from `c` stands above the number the bytes give by themselves. -/
theorem beNat_eq_shiftLeft_add (c : Nat) (s : List Byte) : beNat c s = c <<< (8 * s.length) + beNat 0 s := by
  induction s generalizing c with
  | nil => rfl
  | cons b s ih =>
    rw [beNat, beNat, ih, ih (0 * 256 + b.toNat), List.length_cons]
    simp only [Nat.shiftLeft_eq]
    ring

theorem beNat_zero_lt (s : List Byte) : beNat 0 s < 2 ^ (8 * s.length) := by
  induction s with
  | nil => exact one_pos
  | cons b s ih =>
    rw [beNat, Nat.zero_mul, Nat.zero_add, beNat_eq_shiftLeft_add, Nat.shiftLeft_eq, List.length_cons]
    calc b.toNat * 2 ^ (8 * s.length) + beNat 0 s
        < (b.toNat + 1) * 2 ^ (8 * s.length) := by
          rw [Nat.add_one_mul b.toNat]
          exact Nat.add_lt_add_left ih _
      _ ≤ 2 ^ 8 * 2 ^ (8 * s.length) := Nat.mul_le_mul_right _ b.isLt
      _ = 2 ^ (8 * (s.length + 1)) := by rw [← Nat.pow_add, Nat.mul_succ, Nat.add_comm]

/-- The first byte of a sequence read as a number, above the others. -/
theorem beNat_cons (b : Byte) (s : List Byte) :
    beNat 0 (b :: s) = b.toNat <<< (8 * s.length) ^^^ beNat 0 s := by
  rw [beNat, Nat.zero_mul, Nat.zero_add, beNat_eq_shiftLeft_add, shiftLeft_add_eq_xor (beNat_zero_lt s)]

/-- A pass from any accumulator is a remainder: the accumulator is XORed in above the bytes, at the first of them. -/
theorem toNat_crc8Acc_eq_polyMod (acc : Byte) (s : List Byte) : (crc8Acc acc s).toNat =
    polyMod (8 * s.length) (acc.toNat <<< (8 * s.length) ^^^ beNat 0 s <<< 8) := by
  induction s generalizing acc with
  | nil => exact (Nat.xor_zero _).symm
  | cons b s ih =>
    have hrest : beNat 0 s <<< 8 < 2 ^ (8 * s.length + 8) := by
      rw [Nat.shiftLeft_eq, Nat.pow_add]
      exact Nat.mul_lt_mul_of_pos_right (beNat_zero_lt s) (by norm_num)
    have hfirst : acc.toNat <<< (8 * (s.length + 1)) ^^^ beNat 0 (b :: s) <<< 8 =
        ((acc ^^^ b).toNat <<< 8) <<< (8 * s.length) ^^^ beNat 0 s <<< 8 := by
      rw [beNat_cons, Nat.shiftLeft_xor_distrib, BitVec.toNat_xor, Nat.shiftLeft_xor_distrib,
        Nat.shiftLeft_xor_distrib, ← Nat.shiftLeft_add, ← Nat.shiftLeft_add, ← Nat.shiftLeft_add, Nat.mul_succ,
        Nat.add_comm 8, Nat.xor_assoc]
    rw [crc8Acc_cons, ih, List.length_cons, hfirst, Nat.mul_succ, polyMod_xor, polyMod_xor,
      polyMod_add_of_lt 8 hrest, Nat.add_comm _ 8, polyMod_add_shiftLeft, toNat_crc8Step_eq_polyMod]

/-- Settles O14: INIT is the accumulator of a pass, and in a sequence that is not empty its place is the first byte. -/
theorem checksumIsThePolynomialRemainder : Obligations.ChecksumIsThePolynomialRemainder := by
  refine ⟨toNat_crc8Bit_eq_polyMod, toNat_crc8Step_eq_polyMod, fun s hs => ?_⟩
  have hlen : 8 * (s.length - 1) + 8 = 8 * s.length := by
    have hpos := List.length_pos_iff.2 hs
    omega
  rw [crc8_eq_acc, toNat_crc8Acc_eq_polyMod, Nat.shiftLeft_xor_distrib, ← Nat.shiftLeft_add, hlen, Nat.xor_comm]
  rfl

/-! ## The table (R54) -/

/-- The table as printed is the byte step from 0, over the bytes in order: the one fact that is found by evaluation. -/
theorem crcTable_eq_map :
    crcTable = (List.finRange 256).map fun i => crc8Step 0x00#8 (BitVec.ofFin i) := by decide +kernel

theorem crcTable_getElem? (i : Byte) : crcTable[i.toNat]? = some (crc8Step 0x00#8 i) := by
  have hi : i.toNat < (List.finRange 256).length := by
    rw [List.length_finRange]
    exact i.isLt
  rw [crcTable_eq_map, List.getElem?_map, List.getElem?_eq_getElem hi, List.getElem_finRange]
  rfl

/-- One look-up is one byte step: the step sees only the XOR of accumulator and byte. -/
theorem crc8Step_eq_crc8TableStep (acc b : Byte) : crc8Step acc b = crc8TableStep acc b := by
  rw [crc8TableStep, List.getD_eq_getElem?_getD, crcTable_getElem?, Option.getD_some]
  exact crc8Step_eq_of_xor BitVec.zero_xor.symm

/-- Settles O19: the entries are the steps from 0, which are different for different bytes. -/
theorem tableFormOfTheByteStep : Obligations.TableFormOfTheByteStep := by
  refine ⟨?_, ?_, crcTable_getElem? 0x00#8, crcTable_getElem?, crc8Step_eq_crc8TableStep⟩
  · rw [crcTable_eq_map, List.length_map, List.length_finRange]
  · rw [crcTable_eq_map]
    refine (List.nodup_finRange 256).map fun i j h => ?_
    exact BitVec.ofFin.inj (crc8Step_right_injective 0x00#8 h)

/-! ## One to three changed bits (R56)

By linearity the residue of a changed codeword is that of the change alone, passed from accumulator 0. The residue of a
single changed bit has an odd number of ones (`x + 1` divides `P`), so three changed bits leave an odd number of ones too, and
two changed bits cancel only if they have the same residue. -/

/-- A change of a 3-byte sequence, byte by byte. -/
def changeBytes (e : BitVec 24) : List Byte := [e.extractLsb' 16 8, e.extractLsb' 8 8, e.extractLsb' 0 8]

/-- What a change adds to the residue of a 3-byte sequence. -/
def changeResidue (e : BitVec 24) : Byte := crc8Acc 0x00#8 (changeBytes e)

/-- Whether a byte has an odd number of ones. -/
def oddOnes (v : Byte) : Bool := (List.range 8).foldr (fun i p => v.getLsbD i ^^ p) false

/-- A changed codeword has the residue of the change (R51, R57). -/
theorem crc8_change_codeword (b0 b1 : Byte) (e : BitVec 24) :
    crc8 [b0 ^^^ e.extractLsb' 16 8, b1 ^^^ e.extractLsb' 8 8, crc8 [b0, b1] ^^^ e.extractLsb' 0 8] =
      changeResidue e := by
  have hlinear := checksumPassIsLinear Config.init 0x00#8 [b0, b1, crc8 [b0, b1]] (changeBytes e) rfl
  have hcodeword : crc8Acc Config.init [b0, b1, crc8 [b0, b1]] = 0#8 := crc8_append_crc8 [b0, b1]
  rwa [hcodeword, BitVec.zero_xor, BitVec.xor_zero] at hlinear

theorem changeResidue_xor (e e' : BitVec 24) : changeResidue (e ^^^ e') = changeResidue e ^^^ changeResidue e' := by
  rw [changeResidue, changeResidue, changeResidue, ← checksumPassIsLinear _ _ (changeBytes e) (changeBytes e') rfl]
  simp [changeBytes, BitVec.extractLsb'_xor]

theorem oddOnes_xor (v w : Byte) : oddOnes (v ^^^ w) = (oddOnes v ^^ oddOnes w) := by
  unfold oddOnes
  generalize List.range 8 = l
  induction l with
  | nil => rfl
  | cons i l ih =>
    rw [List.foldr_cons, ih, List.foldr_cons, List.foldr_cons, BitVec.getLsbD_xor]
    simp only [Bool.xor_assoc, Bool.xor_left_comm]

theorem ne_zero_of_oddOnes {v : Byte} (h : oddOnes v = true) : v ≠ 0#8 := by
  rintro rfl
  cases h

/-- Setting a bit that is not set is changing it. -/
theorem or_twoPow_eq_xor {w j : Nat} {x : BitVec w} (h : x.getLsbD j = false) :
    x ||| BitVec.twoPow w j = x ^^^ BitVec.twoPow w j := by
  refine BitVec.eq_of_getLsbD_eq fun i _ => ?_
  rw [BitVec.getLsbD_or, BitVec.getLsbD_xor, BitVec.getLsbD_twoPow]
  by_cases hij : j = i
  · subst hij
    rw [h, Bool.false_or, Bool.false_xor]
  · simp [hij]

theorem getLsbD_twoPow_of_ne {w i j : Nat} (h : i ≠ j) : (BitVec.twoPow w i).getLsbD j = false := by
  simp [BitVec.getLsbD_twoPow, h]

/-- One changed bit: its residue has an odd number of ones. -/
theorem oddOnes_changeResidue_twoPow :
    ∀ i : Fin 24, oddOnes (changeResidue (BitVec.twoPow 24 i)) = true := by decide +kernel

/-- The 24 single changed bits have different residues. -/
theorem changeResidue_twoPow_injective : Function.Injective fun i : Fin 24 => changeResidue (BitVec.twoPow 24 i) := by
  rw [Function.Injective]
  decide +kernel

theorem changeResidue_two_bits_ne_zero (i j : Fin 24) :
    changeResidue (BitVec.twoPow 24 i ||| BitVec.twoPow 24 j) ≠ 0#8 := by
  by_cases hij : i = j
  · rw [hij, BitVec.or_self]
    exact ne_zero_of_oddOnes (oddOnes_changeResidue_twoPow j)
  · have hne : i.val ≠ j.val := Fin.val_ne_of_ne hij
    rw [or_twoPow_eq_xor (getLsbD_twoPow_of_ne hne), changeResidue_xor, Ne, BitVec.xor_eq_zero_iff]
    exact fun h => hij (changeResidue_twoPow_injective h)

theorem changeResidue_three_bits_ne_zero (i j k : Fin 24) :
    changeResidue (BitVec.twoPow 24 i ||| BitVec.twoPow 24 j ||| BitVec.twoPow 24 k) ≠ 0#8 := by
  by_cases hij : i = j
  · rw [hij, BitVec.or_self]
    exact changeResidue_two_bits_ne_zero j k
  by_cases hik : i = k
  · rw [← hik, BitVec.or_comm, ← BitVec.or_assoc, BitVec.or_self]
    exact changeResidue_two_bits_ne_zero i j
  by_cases hjk : j = k
  · rw [hjk, BitVec.or_assoc, BitVec.or_self]
    exact changeResidue_two_bits_ne_zero i k
  have hk : (BitVec.twoPow 24 i.val ||| BitVec.twoPow 24 j.val).getLsbD k = false := by
    rw [BitVec.getLsbD_or, getLsbD_twoPow_of_ne (Fin.val_ne_of_ne hik), getLsbD_twoPow_of_ne (Fin.val_ne_of_ne hjk),
      Bool.or_self]
  rw [or_twoPow_eq_xor hk, or_twoPow_eq_xor (getLsbD_twoPow_of_ne (Fin.val_ne_of_ne hij)), changeResidue_xor,
    changeResidue_xor]
  apply ne_zero_of_oddOnes
  simp only [oddOnes_xor, oddOnes_changeResidue_twoPow, Bool.xor_self, Bool.false_xor]

/-- Settles O22: a changed codeword has the residue of the change, which is not 0 for one to three bits; the two codewords
that differ in four bits are evaluated. -/
theorem threeBitChangesOfACodewordAreDetected : Obligations.ThreeBitChangesOfACodewordAreDetected :=
  ⟨fun b0 b1 i j k => (crc8_change_codeword b0 b1 _).trans_ne (changeResidue_three_bits_ne_zero i j k),
    by decide +kernel, by decide +kernel⟩

/-! ## The operation CRC8 and the empty input (R49, R55) -/

/-- Settles O24: the answer of an accepted request, the refusal of one over MAXLEN, and the corner cases read off the laws of a
byte step. -/
theorem crc8AnswersTheChecksum : Obligations.Crc8AnswersTheChecksum := by
  refine ⟨fun data s h => ?_, fun data s h => ?_, rfl, fun b => ?_, by decide +kernel, by decide +kernel,
    by decide +kernel, crc8_append_crc8, ?_⟩
  · exact exec_of_wellFormed (i := .crc8 data) h
  · exact exec_of_not_wellFormed (i := .crc8 data) h
  · exact crc8_append_singleton_eq_zero_iff [] b
  · exact Finite.surjective_of_injective (crc8Step_right_injective Config.init)

/-- Settles O20: no byte leaves `INIT`, which is therefore its own checksum byte, and BPAY adds no checksum to an empty
payload. -/
theorem checksumOfTheEmptyInput : Obligations.ChecksumOfTheEmptyInput := by
  refine ⟨rfl, crc8_append_crc8 [], fun code wcrc s h => ?_⟩
  rw [exec_of_wellFormed (i := .bpay code [] wcrc) h, Instr.answer, payloadFrame_eq,
    if_neg fun hw : wcrc = 1#1 ∧ [] ≠ [] => hw.2 rfl]
  rfl

end Sys2Proof.Machine

namespace Sys2Proof.Machine

/-! ## What the checksum of a frame covers (R63, R65)

Everything after the two code bytes is a function of the payload and `wcrc` alone, and BARG's frame is a payload frame. -/

/-- A frame after its code: the payload and its own checksum, the code nowhere (R63). -/
theorem payloadFrame_drop_two (code : Word) (data : List Byte) (wcrc : BitVec 1) :
    (payloadFrame code data wcrc).drop 2 = data ++ if wcrc = 1#1 ∧ data ≠ [] then [crc8 data] else [] := by
  rw [payloadFrame_eq]
  rfl

/-- An argument is a payload of two bytes, which is not empty, so its checksum is present (R64, R65). -/
theorem argumentFrame_eq_payloadFrame (code arg : Word) :
    argumentFrame code arg = payloadFrame code (wordBytes arg) 1#1 := by
  rw [payloadFrame_eq, if_pos ⟨rfl, List.cons_ne_nil _ _⟩]
  rfl

/-- Settles O28: after the code stand the payload and its checksum, whatever the code; BARG's frame is such a frame. -/
theorem checksumNeverCoversTheCode : Obligations.ChecksumNeverCoversTheCode := by
  refine ⟨fun code code' arg s => ?_, fun code code' data wcrc s h => ?_⟩
  · refine ⟨argumentFrame code arg, argumentFrame code' arg, exec_of_wellFormed (i := .barg code arg) rfl,
      exec_of_wellFormed (i := .barg code' arg) rfl, ?_⟩
    simp only [argumentFrame_eq_payloadFrame, payloadFrame_drop_two]
  · refine ⟨payloadFrame code data wcrc, payloadFrame code' data wcrc,
      exec_of_wellFormed (i := .bpay code data wcrc) h, exec_of_wellFormed (i := .bpay code' data wcrc) h, ?_⟩
    simp only [payloadFrame_drop_two]

/-- Settles O30: both requests are within MAXLEN, and their answers are the same frame. -/
theorem bargIsBpayOfItsArgument : Obligations.BargIsBpayOfItsArgument := by
  intro code arg s h
  calc exec (.barg code arg) s
    _ = .next (s.respond (.ok (.frame (argumentFrame code arg)))) := exec_of_wellFormed (i := .barg code arg) rfl
    _ = .next (s.respond (.ok (.frame (payloadFrame code (wordBytes arg) 1#1)))) := by
      rw [argumentFrame_eq_payloadFrame]
    _ = exec (.bpay code (wordBytes arg) 1#1) s := (exec_of_wellFormed (i := .bpay code (wordBytes arg) 1#1) h).symm

end Sys2Proof.Machine

namespace Sys2Proof.Machine

/-! ## The response word decoder (R70 to R72) -/

/-- The joined word as a number: the high byte counts 256s, and the low byte fits below (R72). -/
theorem toNat_joinWord (hi lo : Byte) : (joinWord hi lo).toNat = hi.toNat * 256 + lo.toNat := by
  calc (joinWord hi lo).toNat
    _ = hi.toNat <<< 8 ||| lo.toNat := by rw [joinWord_eq_append, BitVec.toNat_append]
    _ = hi.toNat <<< 8 + lo.toNat := (Nat.shiftLeft_add_eq_or_of_lt lo.isLt hi.toNat).symm
    _ = hi.toNat * 256 + lo.toNat := by rw [Nat.shiftLeft_eq]

/-- Settles O32: `joinWord` is the shift-and-OR form by definition, and splitting it gives the two bytes back. -/
theorem wordAssembly : Obligations.WordAssembly := by
  intro hi lo
  obtain ⟨hhi, hlo⟩ : hiByte (joinWord hi lo) = hi ∧ loByte (joinWord hi lo) = lo := by
    simpa [wordBytes] using wordBytes_joinWord hi lo
  exact ⟨rfl, hhi, hlo, toNat_joinWord hi lo⟩

/-- The residue test of a half compares its checksum byte with the checksum of its data bytes (R52, R70). -/
theorem crc8_half_eq_zero_iff (w : Half) : crc8 [w.hi, w.lo, w.crc] = 0x00#8 ↔ crc8 [w.hi, w.lo] = w.crc :=
  (crc8_append_singleton_eq_zero_iff [w.hi, w.lo] w.crc).trans eq_comm

theorem halfValid_iff_crc8_eq (w : Half) : halfValid w = true ↔ crc8 [w.hi, w.lo] = w.crc :=
  (halfValid_iff w).trans (crc8_half_eq_zero_iff w)

/-- Two bytes with their own checksum pass the check. -/
theorem halfValid_sealHalf (hi lo : Byte) : halfValid (sealHalf hi lo) = true :=
  (halfValid_iff_crc8_eq (sealHalf hi lo)).2 rfl

/-- Settles O33: the two cases of the residue, and a word sealed with the checksum of its own bytes falls under the first. -/
theorem dwordVerifiesAndDecodesAWord : Obligations.DwordVerifiesAndDecodesAWord := by
  refine ⟨fun w s h => ?_, fun w s h => ?_, crc8_half_eq_zero_iff, fun v s => ?_, by decide +kernel, by decide +kernel⟩
  · rw [exec_dword, execDword_of_valid ((halfValid_iff w).2 h), joinWord_eq_append, respond_eq]
  · have hbad : halfValid w = false := Bool.eq_false_iff.2 (mt (halfValid_iff w).1 h)
    rw [exec_dword, execDword_of_not_valid hbad, respond_eq]
  · calc exec (.dword (sealHalf (hiByte v) (loByte v))) s
      _ = .next (s.respond (.ok (.word (joinWord (hiByte v) (loByte v))))) := execDword_of_valid (halfValid_sealHalf _ _) s
      _ = .next (s.respond (.ok (.word v))) := by rw [joinWord_hiByte_loByte]

/-- A word is the answer to a DWORD that passed its check, and to no other request (R71). -/
theorem answer_eq_ok_word_iff {i : Instr} {v : Word} : i.answer = .ok (.word v) ↔
    ∃ w : Half, i = .dword w ∧ halfValid w = true ∧ joinWord w.hi w.lo = v := by
  cases i with
  | crc8 | bcmd | barg | bpay | rsvd7 => simp [Instr.answer]
  | dword w => cases hw : halfValid w <;> simp [Instr.answer, hw]
  | dflt g =>
    rw [Instr.answer]
    split <;> simp
  | dmeas m =>
    rw [Instr.answer]
    split <;> simp

/-- Settles O34: the response added is the request's answer, and a word is the answer to a DWORD that passed its check only. -/
theorem wordIsNeverDeliveredUnchecked : Obligations.WordIsNeverDeliveredUnchecked := by
  intro i s t v h hresp
  obtain ⟨-, rfl⟩ := exec_next_iff.1 h
  have hanswer : i.answer = .ok (.word v) := by simpa using hresp
  obtain ⟨w, rfl, hvalid, rfl⟩ := answer_eq_ok_word_iff.1 hanswer
  exact ⟨w, rfl, (halfValid_iff_crc8_eq w).1 hvalid, joinWord_eq_append w.hi w.lo⟩

end Sys2Proof.Machine

namespace Sys2Proof.Machine

/-! ## The float reassembler (R75 to R82)

Each decoder answers OK in one case and CRC_ERROR in the other; the case is read off the residues of the halves. -/

/-- A group passes exactly when both residues are 0 (R75). -/
theorem groupValid_iff_residues (g : FloatGroup) :
    groupValid g = true ↔ crc8 g.first.bytes = 0x00#8 ∧ crc8 g.second.bytes = 0x00#8 :=
  (groupValid_iff g).trans (and_congr (halfValid_iff g.first) (halfValid_iff g.second))

theorem groupValid_eq_false_iff_residues (g : FloatGroup) :
    groupValid g = false ↔ crc8 g.first.bytes ≠ 0x00#8 ∨ crc8 g.second.bytes ≠ 0x00#8 := by
  rw [← Bool.not_eq_true, groupValid_iff_residues, not_and_or]

theorem groupValid_sealGroup (p : Pattern) : groupValid (sealGroup p) = true :=
  (groupValid_iff (sealGroup p)).2 ⟨halfValid_sealHalf _ _, halfValid_sealHalf _ _⟩

/-- The four data bytes of a sealed pattern join to the pattern (R37, R39). -/
theorem groupPattern_sealGroup (p : Pattern) : groupPattern (sealGroup p) = p := by
  have hhigh : p.extractLsb' 24 8 ++ p.extractLsb' 16 8 = p.extractLsb' 16 16 :=
    BitVec.extractLsb'_append_extractLsb'_eq_extractLsb' rfl
  have hthree : p.extractLsb' 16 16 ++ p.extractLsb' 8 8 = p.extractLsb' 8 24 :=
    BitVec.extractLsb'_append_extractLsb'_eq_extractLsb' rfl
  have hall : p.extractLsb' 8 24 ++ p.extractLsb' 0 8 = p.extractLsb' 0 32 :=
    BitVec.extractLsb'_append_extractLsb'_eq_extractLsb' rfl
  calc groupPattern (sealGroup p)
    _ = p.extractLsb' 24 8 ++ p.extractLsb' 16 8 ++ p.extractLsb' 8 8 ++ p.extractLsb' 0 8 := rfl
    _ = p.extractLsb' 0 32 := by rw [hhigh, hthree, hall]
    _ = p := BitVec.extractLsb'_eq_self

theorem exec_dflt_eq_ok_iff {g : FloatGroup} {s : State} {p : Pattern} :
    exec (.dflt g) s = .next (s.respond (.ok (.fbits p))) ↔ groupValid g = true ∧ groupPattern g = p := by
  cases h : groupValid g with
  | true => simp [execDflt_of_valid h, respond_inj]
  | false => simp [execDflt_of_not_valid h, respond_inj]

theorem exec_dmeas_eq_ok_iff {m : MeasBlock} {s : State} {a b c : Pattern} :
    exec (.dmeas m) s = .next (s.respond (.ok (.meas a b c))) ↔
      blockValid m = true ∧ groupPattern m.co2 = a ∧ groupPattern m.temp = b ∧ groupPattern m.rh = c := by
  cases h : blockValid m with
  | true => simp [execDmeas_of_valid h, respond_inj]
  | false => simp [execDmeas_of_not_valid h, respond_inj]

/-- A residue other than 0 in either half is a CRC error (R75). -/
theorem exec_dflt_of_bad_residue {g : FloatGroup} (s : State)
    (h : crc8 g.first.bytes ≠ 0x00#8 ∨ crc8 g.second.bytes ≠ 0x00#8) :
    exec (.dflt g) s = .next (s.respond (.error .crcError)) :=
  execDflt_of_not_valid ((groupValid_eq_false_iff_residues g).2 h) s

/-- Settles O35: the two cases of the group's check; the group of a pattern is the sealed one. -/
theorem dfltVerifiesAndReassemblesAGroup : Obligations.DfltVerifiesAndReassemblesAGroup := by
  refine ⟨fun g s hfirst hsecond => ?_, fun g s h => exec_dflt_of_bad_residue s h, crc8_half_eq_zero_iff, fun p => ?_,
    by decide +kernel, by decide +kernel⟩
  · exact exec_dflt_eq_ok_iff.2 ⟨(groupValid_iff_residues g).2 ⟨hfirst, hsecond⟩, rfl⟩
  · obtain ⟨hfirst, hsecond⟩ := (groupValid_iff_residues _).1 (groupValid_sealGroup p)
    exact ⟨sealGroup p, hfirst, hsecond, groupPattern_sealGroup p⟩

/-- Settles O36: the pattern of an OK is the group's own; the group of the six-byte pass is
spec/95_test_vectors.md section 2.4's. -/
theorem halvesAreCheckedIndependently : Obligations.HalvesAreCheckedIndependently := by
  refine ⟨fun g s => ?_, ⟨⟨0x43, 0xCE, 0x7C⟩, ⟨0x40, 0x00, 0xCF⟩⟩, by decide +kernel, fun s => ?_⟩
  · rw [← groupValid_iff_residues]
    constructor
    · rintro ⟨p, h⟩
      exact (exec_dflt_eq_ok_iff.1 h).1
    · exact fun h => ⟨groupPattern g, exec_dflt_eq_ok_iff.2 ⟨h, rfl⟩⟩
  · exact exec_dflt_of_bad_residue s (by decide +kernel)

/-- Settles O37: a sealed group passes its check, and every group falls under one of the two cases. -/
theorem everyPatternPassesUnchanged : Obligations.EveryPatternPassesUnchanged := by
  refine ⟨fun p s => ?_, fun g s => ?_⟩
  · exact exec_dflt_eq_ok_iff.2 ⟨groupValid_sealGroup p, groupPattern_sealGroup p⟩
  · cases h : groupValid g with
    | true => exact ⟨_, execDflt_of_valid h s, .inr rfl⟩
    | false => exact ⟨_, execDflt_of_not_valid h s, .inl rfl⟩

/-! ## One changed byte of a group (R82)

The changed byte lies in one half, and a half is a codeword of its own. -/

/-- A codeword changed in one byte is none. -/
theorem crc8_set_ne_zero {t : List Byte} {k : Nat} {b : Byte} (ht : crc8 t = 0x00#8) (hk : k < t.length)
    (hb : t[k]? ≠ some b) : crc8 (t.set k b) ≠ 0x00#8 :=
  ht ▸ crc8Acc_set_ne hk hb Config.init

/-- A valid group changed in one byte has a half that fails its check. -/
theorem bad_residue_of_group_bytes_set {g g' : FloatGroup} {k : Nat} {b : Byte} (hfirst : crc8 g.first.bytes = 0x00#8)
    (hsecond : crc8 g.second.bytes = 0x00#8) (hk : k < 6) (hb : g.bytes[k]? ≠ some b)
    (h : g'.bytes = g.bytes.set k b) : crc8 g'.first.bytes ≠ 0x00#8 ∨ crc8 g'.second.bytes ≠ 0x00#8 := by
  rw [FloatGroup.bytes, FloatGroup.bytes] at h
  rw [FloatGroup.bytes] at hb
  obtain hlt | hle := Nat.lt_or_ge k g.first.bytes.length
  · rw [List.set_append_left k b hlt] at h
    rw [List.getElem?_append_left hlt] at hb
    have hhalf : g'.first.bytes = g.first.bytes.set k b := List.append_inj_left' h rfl
    exact .inl (hhalf ▸ crc8_set_ne_zero hfirst hlt hb)
  · rw [List.set_append_right k b hle] at h
    rw [List.getElem?_append_right hle] at hb
    have hhalf : g'.second.bytes = g.second.bytes.set (k - g.first.bytes.length) b := List.append_inj_right h rfl
    exact .inr (hhalf ▸ crc8_set_ne_zero hsecond (Nat.sub_lt_left_of_lt_add hle hk) hb)

/-- Settles O38: `bad_residue_of_group_bytes_set`, and the pair of groups of spec/95_test_vectors.md section 2.4. -/
theorem oneCorruptedByteOfAGroupIsCaught : Obligations.OneCorruptedByteOfAGroupIsCaught := by
  refine ⟨fun g g' k b s hfirst hsecond hk hb h => ?_, ⟨⟨0x43, 0xCE, 0x7D⟩, ⟨0x40, 0x00, 0x08⟩⟩,
    ⟨⟨0x43, 0xCF, 0x4C⟩, ⟨0x40, 0x00, 0x08⟩⟩, rfl, by decide +kernel, by decide +kernel, rfl, by decide, by decide,
    fun s => ?_⟩
  · exact exec_dflt_of_bad_residue s (bad_residue_of_group_bytes_set hfirst hsecond hk hb h)
  · exact exec_dflt_eq_ok_iff.2 (by decide +kernel)

/-! ## The measurement block (R78 to R81) -/

theorem blockValid_iff_forall_groupValid (m : MeasBlock) :
    blockValid m = true ↔ ∀ g ∈ [m.co2, m.temp, m.rh], groupValid g = true := by
  simp [blockValid_iff]

theorem blockValid_iff_forall_halfValid (m : MeasBlock) : blockValid m = true ↔
    ∀ h ∈ [m.co2.first, m.co2.second, m.temp.first, m.temp.second, m.rh.first, m.rh.second], halfValid h = true := by
  simp [blockValid_iff, groupValid_iff, and_assoc]

/-- Settles O39: a block passes exactly when each of its groups does. -/
theorem dmeasVerifiesAndReassemblesABlock : Obligations.DmeasVerifiesAndReassemblesABlock := by
  refine ⟨fun m s h => ?_, fun m s ⟨g, hg, hbad⟩ => ?_⟩
  · have hvalid : blockValid m = true :=
      (blockValid_iff_forall_groupValid m).2 fun g hg => (groupValid_iff_residues g).2 (h g hg)
    exact exec_dmeas_eq_ok_iff.2 ⟨hvalid, rfl, rfl, rfl⟩
  · have hgroup : groupValid g = false := (groupValid_eq_false_iff_residues g).2 hbad
    have hblock : blockValid m = false :=
      Bool.eq_false_iff.2 fun h => Bool.eq_false_iff.1 hgroup ((blockValid_iff_forall_groupValid m).1 h g hg)
    exact execDmeas_of_not_valid hblock s

/-- Settles O40: a block passes exactly when each of its halves does, and an error response has no result. -/
theorem dmeasDeliversAllOrNothing : Obligations.DmeasDeliversAllOrNothing := by
  intro m s h hmem hbad
  have hblock : blockValid m = false := Bool.eq_false_iff.2 fun hvalid =>
    hbad ((halfValid_iff_crc8_eq h).1 ((blockValid_iff_forall_halfValid m).1 hvalid h hmem))
  exact ⟨.error .crcError, execDmeas_of_not_valid hblock s, rfl, rfl⟩

/-- Settles O41: both sides say that the three groups pass and carry the three patterns. -/
theorem dmeasIsThreeDflts : Obligations.DmeasIsThreeDflts := by
  intro m s a b c
  simp only [← respond_eq, exec_dmeas_eq_ok_iff, exec_dflt_eq_ok_iff, blockValid_iff]
  tauto

/-- Settles O42: the three sealed groups pass DFLT (R77), so their block passes DMEAS (R81). -/
theorem sealedMeasurementComesBack : Obligations.SealedMeasurementComesBack := by
  intro a b c s
  obtain ⟨hdflt, -⟩ := everyPatternPassesUnchanged
  exact (dmeasIsThreeDflts ⟨sealGroup a, sealGroup b, sealGroup c⟩ s a b c).2 ⟨hdflt a s, hdflt b s, hdflt c s⟩

end Sys2Proof.Machine

namespace Sys2Proof.Machine

/-! ## The errors (R85 to R92)

An error is a response like any other, so which error is raised is read off the request's answer. Only CRC8 and BPAY have a bound on
their length, and neither raises an error. -/

/-- Settles O9: with nothing pending there is no input to take. -/
theorem idleBlockStaysIdle : Obligations.IdleBlockStaysIdle :=
  fun _ hs => step_of_pending_nil hs

/-- A response the block may give is an OK or one of the two errors it raises (R86). -/
theorem producible_cases {c : Config} {r : Response} (h : r.producible c) :
    (∃ v, r = .ok v) ∨ r = .error .crcError ∨ r = .error .notImplemented := by
  cases r with
  | ok v => exact .inl ⟨v, rfl⟩
  | error k =>
    cases k with
    | transport | noData => exact h.elim
    | crcError => exact .inr (.inl rfl)
    | notImplemented => exact .inr (.inr rfl)

/-- Settles O45: the response added is the answer to a request within MAXLEN, which is one the block may give. -/
theorem neverTransportOrNoData : Obligations.NeverTransportOrNoData := by
  intro i s t h
  obtain ⟨hi, rfl⟩ := exec_next_iff.1 h
  refine ⟨i.answer, rfl, ?_⟩
  obtain ⟨v, hr⟩ | hr | hr := producible_cases (answer_producible hi)
  · simp [hr]
  · simp [hr, ErrorKind.code]
  · simp [hr, ErrorKind.code]

/-- A request whose answer is an error is within every MAXLEN. -/
theorem wellFormed_of_answer_eq_error {i : Instr} {k : ErrorKind} (h : i.answer = .error k) (c : Config) :
    i.wellFormed c = true := by
  cases i with
  | crc8 | bpay => cases h
  | bcmd | barg | dword | dflt | dmeas | rsvd7 => rfl

/-- In every state, an error is raised for exactly the requests whose answer it is. -/
theorem exec_eq_respond_error_iff {i : Instr} {s : State} {k : ErrorKind} :
    exec i s = .next (s.respond (.error k)) ↔ i.answer = .error k := by
  rw [exec_next_iff, respond_inj, eq_comm (a := Response.error k)]
  exact and_iff_right_of_imp fun h => wellFormed_of_answer_eq_error h s.config

theorem halfValid_eq_false_iff_residue (w : Half) : halfValid w = false ↔ crc8 w.bytes ≠ 0x00#8 :=
  Bool.eq_false_iff.trans (not_congr (halfValid_iff w))

theorem blockValid_eq_false_iff_residues (m : MeasBlock) : blockValid m = false ↔
    ∃ h ∈ [m.co2.first, m.co2.second, m.temp.first, m.temp.second, m.rh.first, m.rh.second],
      crc8 h.bytes ≠ 0x00#8 := by
  simp only [← halfValid_eq_false_iff_residue, Bool.eq_false_iff, Ne, blockValid_iff_forall_halfValid, not_forall,
    exists_prop]

/-- The three decoders answer CRC_ERROR when their check fails, and no other request does (R87). -/
theorem answer_eq_crcError_iff {i : Instr} : i.answer = .error .crcError ↔
    (∃ w, i = .dword w ∧ halfValid w = false) ∨ (∃ g, i = .dflt g ∧ groupValid g = false) ∨
      ∃ m, i = .dmeas m ∧ blockValid m = false := by
  cases i with
  | crc8 | bcmd | barg | bpay | rsvd7 => simp [Instr.answer]
  | dword w => cases hw : halfValid w <;> simp [Instr.answer, hw]
  | dflt g => cases hg : groupValid g <;> simp [Instr.answer, hg]
  | dmeas m => cases hm : blockValid m <;> simp [Instr.answer, hm]

/-- Settles O46: CRC_ERROR is the answer exactly when a decoder's check fails, and each check is read off the residues of the
halves. -/
theorem causesOfCrcError : Obligations.CausesOfCrcError := by
  intro i s
  simp only [← respond_eq, exec_eq_respond_error_iff, answer_eq_crcError_iff, halfValid_eq_false_iff_residue,
    groupValid_eq_false_iff_residues, blockValid_eq_false_iff_residues]

/-- A packet carries the reserved request exactly when its selector is 7 (R41). -/
theorem eq_rsvd7_iff_of_decode {p : Packet} {i : Instr} (h : decode p = .ok i) : i = .rsvd7 ↔ p.op = 7#3 := by
  obtain ⟨hreserved, -⟩ := reservedSelectorIsNotImplemented
  constructor
  · rintro rfl
    obtain ⟨hop, -⟩ := packetOfADecodedRequest p .rsvd7 h
    exact hop.symm
  · intro hop
    exact Except.ok.inj (h.symm.trans (hreserved p hop))

/-- Settles O47: NOT_IMPLEMENTED is the answer to the reserved request alone, and that request stands for selector 7 alone. -/
theorem causeOfNotImplemented : Obligations.CauseOfNotImplemented := by
  intro p i s h
  calc exec i s = .next (s.respond (.error .notImplemented))
    _ ↔ i.answer = .error .notImplemented := exec_eq_respond_error_iff
    _ ↔ i = .rsvd7 := answer_eq_notImplemented_iff
    _ ↔ p.op = 7#3 := eq_rsvd7_iff_of_decode h

/-- Settles O48: answering `i` leaves MAXLEN as it is, so `j` is accepted in both states, and its answer does not look at the
state. -/
theorem errorsDoNotStick : Obligations.ErrorsDoNotStick := by
  intro i j s t h hj
  obtain ⟨-, rfl⟩ := exec_next_iff.1 h
  exact ⟨j.answer, exec_of_wellFormed hj, exec_of_wellFormed (s := s.respond i.answer) hj⟩

end Sys2Proof.Machine

namespace Sys2Proof.Machine

/-! ## A reset between requests (R100) -/

/-- Settles O8: of what a step can do, this is the case of a reset at the head of the list. -/
theorem resetBetweenRequestsIsANoOp : Obligations.ResetBetweenRequestsIsANoOp :=
  fun _ _ hs => step_of_pending_reset hs

end Sys2Proof.Machine
